-- ==== Sys2Proof/Word.lean ====
section
/-! DEFINITION. The units the engine moves: bytes, 32-bit words, 64-byte vectors, key material (R8). -/

namespace Sys2Proof

/-- One byte (R8). -/
abbrev Byte := BitVec 8

/-- A word: 32 bits, bit 31 the most significant (R8). -/
abbrev Word := BitVec 32

/-- A vector `v[0..63]` of 64 bytes (R8). Byte 0 is the top byte, so that the vector read as a number (R35, R86)
is the bit vector's own value. -/
abbrev Vec := BitVec 512

/-- Key material: exactly eight ordered words, `KEY[0]` first (R12). -/
abbrev KeyWords := Vector Word 8

end Sys2Proof
end

