-- ==== Sys2Proof/Machine/Bits.lean ====
section
/-! DEFINITION. Bit fields of a command word, byte order of words, bytes of a vector (R8, R34, R35, R50). -/

namespace Sys2Proof.Machine

/-- The `op` field, bits 31:24 (R50). -/
def opField (w : Word) : BitVec 8 := w.extractLsb' 24 8

/-- The reserved field of format Z, bits 23:0 (R50). -/
def rsvFieldZ (w : Word) : BitVec 24 := w.extractLsb' 0 24

/-- The reserved field of format M, bits 23:2 (R50). -/
def rsvFieldM (w : Word) : BitVec 22 := w.extractLsb' 2 22

/-- The `mode` field of format M, bits 1:0 (R50, R52). -/
def modeField (w : Word) : BitVec 2 := w.extractLsb' 0 2

/-- A format Z word: `op`, then 24 reserved zero bits (R50). -/
def wordZ (op : BitVec 8) : Word := op ++ (0 : BitVec 24)

/-- A format M word: `op`, 22 reserved zero bits, `mode` (R50). -/
def wordM (op : BitVec 8) (mode : BitVec 2) : Word := op ++ (0 : BitVec 22) ++ mode

/-- `be32`: four bytes, most significant first (R8). -/
def be32 (b0 b1 b2 b3 : Byte) : Word := b0 ++ b1 ++ b2 ++ b3

/-- `bytes_be32`: the four bytes of a word, most significant first (R8). -/
def bytesBe32 (w : Word) : List Byte :=
  [w.extractLsb' 24 8, w.extractLsb' 16 8, w.extractLsb' 8 8, w.extractLsb' 0 8]

/-- Nibble position `b` of a word, `w[31-4b : 28-4b]`: position 0 is the most significant nibble (R8). -/
def nibble (w : Word) (b : Nat) : BitVec 4 := w.extractLsb' (28 - 4 * b) 4

/-- Byte `v[i]` of a vector, `v[0]` the most significant (R8, R35). -/
def vecByte (v : Vec) (i : Nat) : Byte := v.extractLsb' (8 * (63 - i)) 8

/-- The 64 bytes of a vector, index 0 first. -/
def vecBytes (v : Vec) : List Byte := (List.range 64).map (vecByte v)

/-- The vector whose bytes are listed, index 0 first. -/
def vecOfBytes (bs : List Byte) : Vec := bs.foldl (fun acc b => acc <<< 8 ||| b.setWidth 512) 0

end Sys2Proof.Machine
end

