-- ==== Sys2Proof/Machine/Regs.lean ====
section
/-! DEFINITION. The working registers of the two units (R14, R15, R21, R22). -/

namespace Sys2Proof.Machine

/-- The cipher unit's working registers (R14, R15). -/
structure CipherRegs where
  /-- `A`, the half fed to the round function -/
  a : Word
  /-- `B`, the other half -/
  b : Word
  /-- `IBUF[0..7]`, the block being assembled from DIN -/
  ibuf : Vector Byte 8
  /-- `ICNT`, how many bytes of `IBUF` came from DIN -/
  icnt : Fin 9
  /-- `RND`, the round index -/
  rnd : Fin 32
  /-- `EOS`: `End` has been taken from DIN -/
  eos : Bool
deriving DecidableEq, Repr, Inhabited

/-- The hash unit's working registers (R21, R22). -/
structure HashRegs where
  /-- `H`, the chaining value -/
  h : Vec
  /-- `N`, the bit-length accumulator -/
  n : Vec
  /-- `SIGMA`, the running checksum -/
  sigma : Vec
  /-- `KH`, the running key of E -/
  kh : Vec
  /-- `T`, the running state of E and Compress -/
  t : Vec
  /-- `M`, the block being compressed -/
  m : Vec
deriving DecidableEq, Repr, Inhabited

end Sys2Proof.Machine
end

