-- ==== Sys2Proof/Config.lean ====
section
/-! DEFINITION. What an instance fixes (R7, R32) and the free values (U15). -/

namespace Sys2Proof

/-- `CSBOX[b][v]`: eight tables of sixteen 4-bit entries (R32). Nothing says that a table is a permutation (R68, U19). -/
abbrev CSbox := Vector (Vector (BitVec 4) 16) 8

/-- The parameters of one engine instance (R7), as plain data. The state carries them (log entry 11), so a statement
about every state holds for every value of them; no step changes them (R32). -/
structure Config where
  /-- cipher substitution tables, OPEN (R7, U8) -/
  csbox : CSbox
  /-- hash byte substitution (R32) -/
  hpi : Vector Byte 256
  /-- hash byte permutation (R32) -/
  htau : Vector (Fin 64) 64
  /-- hash matrix: row `j` is the 8 bytes `HA[j][0..7]`, byte 0 the most significant of the 64 bits (R32, C3) -/
  ha : Vector (BitVec 64) 64
  /-- hash round constants (R32) -/
  hc : Vector Vec 12
  /-- capacity of the message buffer in bytes, OPEN (R7, D8) -/
  msgMax : Nat
deriving DecidableEq, Repr

/-- FREE VALUE: what the cipher unit's working registers hold after a stream command ended (U15 "any value",
log entry 10). It has no body, so nothing can be proved of it. -/
opaque Config.freeCipher : Nat → Machine.CipherRegs

/-- FREE VALUE: what the hash unit's working registers hold after HDIGEST ended (U15 "any value", log entry 10). -/
opaque Config.freeHash : Nat → Machine.HashRegs

end Sys2Proof
end

