-- ==== Sys2Proof/Machine/State.lean ====
section
/-! DEFINITION. The state of one engine instance with its ports, the reasons a step can stop, and the state after reset
(10_state.md, 20_memory.md R30, R31, 70 R150). -/

namespace Sys2Proof.Machine

/-- The engine's six faults (R125). The fault entry `State.raise` records one in FLT and LASTERR and the engine goes on
to the next command (R131, R135): a NEXT state. No step of this model answers `Host.Outcome.fault`, because the spec
has no fault that stops the engine. -/
inductive Fault where
  /-- code 1; raised by CPROC.UNSET and CPROC.BAD (R126); safe, the spec's own behaviour -/
  | cfgMode
  /-- code 2; raised by CPROC.ENC, CPROC.DEC, HDIGEST when DIN delivers `Err` (R127); safe, the spec's own behaviour -/
  | streamIn
  /-- code 3; raised by CPROC.ENC, CPROC.DEC, HDIGEST when the sink answers `err` (R128); safe, the spec's own behaviour -/
  | streamOut
  /-- code 4; raised at decode on an illegal word (R132); safe, the spec's own behaviour -/
  | illegalCmd
  /-- code 5; raised by CPROC.ENC, CPROC.DEC, GETKEY while `KEYV = 0` (R129); safe, the spec's own behaviour -/
  | keyUnset
  /-- code 6; raised by HDIGEST on the byte that does not fit the message buffer (R130); safe, the spec's own behaviour -/
  | msgOverflow
deriving DecidableEq, Repr

/-- Why the model has no meaning for an instruction. -/
inductive Refusal where
  /-- an arm of `exec` without a meaning; safe. No arm answers it: every row of the table has its meaning. -/
  | notModelled (mnemonic : String)
deriving DecidableEq, Repr

/-- The digest size of the instance (R20). -/
inductive HSize where
  | h256
  | h512
deriving DecidableEq, Repr

/-- The two defined values of CPROC's mode operand (R52, R66). -/
inductive Mode where
  | enc
  | dec
deriving DecidableEq, Repr

/-- Whose working registers a stream command uses (R32: the two units are independent). -/
inductive StreamUnit where
  | cipher
  | hash
deriving DecidableEq, Repr

/-- A token of the data-in channel (R31): `Byte(b)`, `End`, `Err`. -/
inductive DinToken where
  | byte (b : Byte)
  | endTok
  | errTok
deriving DecidableEq, Repr

/-- A token of the data-out channel (R31): `Byte(b)`, `End`. -/
inductive DoutToken where
  | byte (b : Byte)
  | endTok
deriving DecidableEq, Repr

/-- The sink's answer to one DOUT write (R31). -/
inductive Answer where
  | ok
  | err
deriving DecidableEq, Repr

/-- One DOUT write that the sink has answered (R31). -/
structure DoutEvent where
  token : DoutToken
  answer : Answer
deriving DecidableEq, Repr

/-- The message buffer `MSG` (R33): the bytes that differ from what an unlisted address reads as, addresses rising. -/
abbrev Memory := List Host.Cell

/-- Where the engine stands in the command loop (R115): at command position, or waiting inside a command at one port
transfer (R46). -/
inductive Phase where
  /-- in `CmdRead()` at command position -/
  | idle
  /-- SETKEY, in `CmdRead()` for the next payload word; the words taken so far (R76) -/
  | payload (got : List Word)
  /-- STAT, in `RspWrite` (R117) -/
  | stat
  /-- GETKEY, in `RspWrite` of `KEY[j]` (R77) -/
  | getkey (j : Nat)
  /-- CPROC, in `DinRead()` of ReadBlock (R75) -/
  | read (m : Mode)
  /-- CPROC, in `DoutWrite` of byte `k` of the block (R74) -/
  | write (m : Mode) (k : Nat)
  /-- HDIGEST, in `DinRead()` of the copy loop (R100) -/
  | copy
  /-- HDIGEST, in `DoutWrite` of byte `k` of the digest (R100) -/
  | digest (k : Nat)
  /-- the final `DoutWrite(End)` of a command without a fault so far (R78, R100) -/
  | lastEnd (u : StreamUnit)
  /-- on a fault path, in `DinRead()`, discarding the rest of the packet (R128, R130) -/
  | drain (u : StreamUnit) (f : Fault)
  /-- on a fault path, in the `DoutWrite(End)` whose answer is ignored (R127, R128, R130) -/
  | release (u : StreamUnit) (f : Fault)
deriving DecidableEq, Repr

/-- The state of one engine instance, the items its environment has offered, and the items it has put out. -/
structure State where
  /-- `KEY[0..7]` (R12) -/
  key : KeyWords
  /-- `KEYV` (R12) -/
  keyv : Bool
  /-- `FLT` as stored; read it through `State.fltRead`, which hardwires bits 0 and 7 (R17) -/
  flt : BitVec 8
  /-- `LASTERR` (R18) -/
  lasterr : BitVec 4
  /-- `HSIZE` (R20) -/
  hsize : HSize
  /-- working registers of the cipher unit (R14, R15) -/
  cipher : CipherRegs
  /-- working registers of the hash unit (R21, R22) -/
  hash : HashRegs
  /-- `MSG` (R23, R33) -/
  msg : Memory
  /-- `LEN` (R23) -/
  len : Nat
  /-- where the engine stands in the command loop (R115, R46) -/
  phase : Phase
  /-- the level of `rst` (R30, R150) -/
  rst : Bool
  /-- the level of the strap `cfg_hsize` (R20, R30) -/
  cfgHsize : Bool
  /-- CMD: words offered and not yet taken, in order (R13, R30) -/
  cmd : List Word
  /-- DIN: tokens offered and not yet taken, in order (R31) -/
  din : List DinToken
  /-- the sink's answers to the next DOUT writes, in order (R31) -/
  sink : List Answer
  /-- the sink's answer to every write after those; `none`: it does not take the item (R46) -/
  sinkAfter : Option Answer
  /-- DOUT: the writes the sink has answered, oldest first (R31) -/
  dout : List DoutEvent
  /-- how many more RSP words the host takes; `none`: no limit (R46) -/
  rspRoom : Option Nat
  /-- RSP: the words written, oldest first (R30) -/
  rsp : List Word
  /-- the model's own: free values drawn so far (log entry 10) -/
  draws : Nat
  /-- the parameters of the instance (R7, log entry 11); no step changes them -/
  cfg : Config
deriving DecidableEq, Repr

/-- The size the strap selects (R20): 1 selects 256, 0 selects 512. -/
def strapSize (strap : Bool) : HSize := if strap then .h256 else .h512

/-- The cipher unit's working registers after reset. DESIGN CHOICE (log entry 2), unsafe: R25 says "unspecified". -/
def CipherRegs.atReset : CipherRegs :=
  { a := 0, b := 0, ibuf := #v[0, 0, 0, 0, 0, 0, 0, 0], icnt := 0, rnd := 0, eos := false }

/-- The hash unit's working registers after reset. DESIGN CHOICE (log entry 2), unsafe: R25 says "unspecified". -/
def HashRegs.atReset : HashRegs := { h := 0, n := 0, sigma := 0, kh := 0, t := 0, m := 0 }

/-- The key registers after reset. DESIGN CHOICE (log entry 1), unsafe: R25 says "no value"; `KEYV = 0` guards every read. -/
def keyAtReset : KeyWords := #v[0, 0, 0, 0, 0, 0, 0, 0]

/-- The instance `c` right after reset is released with the strap at `strap` (R25, R150), nothing offered on any port
(log entry 5), the sink and the host taking everything (log entry 6). -/
def State.resetWith (strap : Bool) (c : Config) : State where
  key := keyAtReset
  keyv := false
  flt := 0
  lasterr := 0
  hsize := strapSize strap
  cipher := .atReset
  hash := .atReset
  msg := []
  len := 0
  phase := .idle
  rst := false
  cfgHsize := strap
  cmd := []
  din := []
  sink := []
  sinkAfter := some .ok
  dout := []
  rspRoom := none
  rsp := []
  draws := 0
  cfg := c

/-- The machine right after reset: strap at 0 (log entry 3), the parameters of `resetConfig` (log entries 7 to 9). -/
def State.reset : State := State.resetWith false resetConfig

end Sys2Proof.Machine
end

