-- ==== Sys2Proof/Machine/Ops.lean ====
section
/-! DEFINITION. The named operations: the message buffer (R33), the ports (R9, R30, R31), fault entry (R131), the release
of the channels (R37, R127, R128, R130), the reset move (R150, R151). -/

namespace Sys2Proof.Machine

/-! ## The message buffer -/

/-- What an address of MSG that nothing has written reads as. DESIGN CHOICE (log entry 4), unsafe: R25 says
"unspecified"; HDIGEST reads no such address (R33). -/
def unlistedByte : Byte := 0

/-- The canonical form of the buffer: addresses strictly rising, no entry equal to what an unlisted address reads as. -/
abbrev Memory.wf (m : Memory) : Prop :=
  m.Pairwise (fun c d => c.1 < d.1) ∧ ∀ c ∈ m, c.2 ≠ unlistedByte

/-- The byte at address `a`. -/
def memByte : Memory → Nat → Byte
  | [], _ => unlistedByte
  | c :: m, a => if c.1 = a then c.2 else memByte m a

/-- An entry put in front, left out when it equals what an unlisted address reads as. -/
def memCons (a : Nat) (b : Byte) (m : Memory) : Memory := if b = unlistedByte then m else (a, b) :: m

/-- One byte stored, keeping the canonical form. -/
def memPut : Memory → Nat → Byte → Memory
  | [], a, b => memCons a b []
  | c :: m, a, b =>
    if a < c.1 then memCons a b (c :: m)
    else if a = c.1 then memCons a b m
    else c :: memPut m a b

/-- `MemRead(addr, n)`: `MSG[addr], …, MSG[addr+n-1]` in that order (R33). -/
def memRead (m : Memory) (addr n : Nat) : List Byte := (List.range n).map fun i => memByte m (addr + i)

/-- `MemWrite(addr, n, v)`: the bytes of `v` stored in that order (R33). -/
def memWrite : Memory → Nat → List Byte → Memory
  | m, _, [] => m
  | m, addr, b :: bs => memWrite (memPut m addr b) (addr + 1) bs

/-! ## Where the command stands, and what has been taken from the input ports -/

/-- The command waits at a port transfer (R46), or has ended (`idle`). -/
def State.waitAt (p : Phase) (s : State) : State := { s with phase := p }

/-- `DinRead()` has taken tokens: these are left (R31). -/
def State.setDin (ts : List DinToken) (s : State) : State := { s with din := ts }

/-- `CmdRead()` has taken words: these are left (R13). -/
def State.setCmd (ws : List Word) (s : State) : State := { s with cmd := ws }

/-! ## The response port -/

/-- `RspWrite(w)`: one word on RSP; it never fails, and waits (`none`) while the host takes no word (R9, R46, D21). -/
def State.rspWrite (w : Word) (s : State) : Option State :=
  match s.rspRoom with
  | some 0 => none
  | some (n + 1) => some { s with rsp := s.rsp ++ [w], rspRoom := some n }
  | none => some { s with rsp := s.rsp ++ [w] }

/-- `RspWrite` of each word in order; how many words the host has not taken, 0 when all are out. -/
def sendRsp : List Word → State → Nat × State
  | [], s => (0, s)
  | w :: ws, s =>
    match s.rspWrite w with
    | none => (ws.length + 1, s)
    | some t => sendRsp ws t

/-! ## The data-out channel -/

/-- The sink's answer to the next write; `none`: it does not take the item (R31, R46). -/
def State.sinkAnswer (s : State) : Option Answer :=
  match s.sink with
  | a :: _ => some a
  | [] => s.sinkAfter

/-- `DoutWrite(t)`: the token delivered and the sink's answer; `none` while the sink does not take it (R31, R46). -/
def State.doutWrite (t : DoutToken) (s : State) : Option (Answer × State) :=
  match s.sinkAnswer with
  | none => none
  | some a => some (a, { s with sink := s.sink.tail, dout := s.dout ++ [{ token := t, answer := a }] })

/-- How a run of DOUT writes ended. -/
inductive Sent where
  /-- every byte was answered `ok` -/
  | done
  /-- a write was answered `err`; nothing after it was written -/
  | refused
  /-- the sink does not take the next byte; so many bytes are still to be written -/
  | waiting (left : Nat)
deriving DecidableEq, Repr

/-- `DoutWrite(Byte(x))` for each byte in order, up to the first `err` (R74, R100). -/
def sendBytes : List Byte → State → Sent × State
  | [], s => (.done, s)
  | b :: bs, s =>
    match s.doutWrite (.byte b) with
    | none => (.waiting (bs.length + 1), s)
    | some (.ok, t) => sendBytes bs t
    | some (.err, t) => (.refused, t)

/-! ## Taking a fault, and the end of a command -/

/-- The code of a fault (R125). -/
def Fault.code : Fault → BitVec 4
  | .cfgMode => 1
  | .streamIn => 2
  | .streamOut => 3
  | .illegalCmd => 4
  | .keyUnset => 5
  | .msgOverflow => 6

/-- The FLT bit of a fault: bit `c` for code `c` (R17). -/
def Fault.bit (f : Fault) : BitVec 8 := 1 <<< f.code.toNat

/-- FAULT ENTRY, the meaning of `raise X` in every rule (R131): `FLT[c] <- 1`, `LASTERR <- c`, the command ends and
control is back in the command loop. Nothing else is saved or changed. There is no return from a fault (R135). -/
def State.raise (f : Fault) (s : State) : State :=
  { s with flt := s.flt ||| f.bit, lasterr := f.code, phase := .idle }

/-- A command other than STAT ends without a fault: `LASTERR <- 0` (R18). -/
def State.complete (s : State) : State := { s with lasterr := 0, phase := .idle }

/-- After a stream command has ended its unit's working registers hold any value (U15, R119): FREE VALUES (log entry 10). -/
def State.freeWork (u : StreamUnit) (s : State) : State :=
  match u with
  | .cipher => { s with cipher := Config.freeCipher s.draws, draws := s.draws + 1 }
  | .hash => { s with hash := Config.freeHash s.draws, draws := s.draws + 1 }

/-- Release DOUT on a fault path: one `End`, its answer ignored, then fault entry (R37, R127, R128, R130, R133). -/
def State.release (u : StreamUnit) (f : Fault) (s : State) : State :=
  match s.doutWrite .endTok with
  | none => s.waitAt (.release u f)
  | some (_, t) => (t.raise f).freeWork u

/-- Release DIN on a fault path: the tokens up to and including the next `End` or `Err` taken and discarded, an `Err`
met here raising nothing (R37, R128, R130, R133); then DOUT is released. -/
def drainTokens (u : StreamUnit) (f : Fault) : List DinToken → State → State
  | [], s => (s.setDin []).waitAt (.drain u f)
  | .byte _ :: ts, s => drainTokens u f ts s
  | .endTok :: ts, s => (s.setDin ts).release u f
  | .errTok :: ts, s => (s.setDin ts).release u f

/-- Release DIN, then DOUT, then fault entry. -/
def State.drain (u : StreamUnit) (f : Fault) (s : State) : State := drainTokens u f s.din s

/-- The final `DoutWrite(End)` of a stream command: on `ok` the command completes; on `err` it is StreamOut, with no
second `End` and nothing to discard, `End` having been taken from DIN (R78, R100, R128). -/
def State.finish (u : StreamUnit) (s : State) : State :=
  match s.doutWrite .endTok with
  | none => s.waitAt (.lastEnd u)
  | some (.ok, t) => t.complete.freeWork u
  | some (.err, t) => (t.raise .streamOut).freeWork u

/-! ## Reset -/

/-- One step with `rst` asserted (R150, R151): the command in progress is abandoned, every piece of engine state takes its
reset value with HSIZE sampled from the strap, and no port moves: what was offered stays offered, what was put out
stays out, no `End` is written. The parameters are not affected (R25). -/
def State.resetMove (s : State) : State :=
  { State.resetWith s.cfgHsize s.cfg with
    rst := s.rst, cmd := s.cmd, din := s.din, sink := s.sink, sinkAfter := s.sinkAfter, dout := s.dout,
    rspRoom := s.rspRoom, rsp := s.rsp, draws := s.draws }

end Sys2Proof.Machine
end

