-- ==== Sys2Proof/Machine/Operands.lean ====
section
/-! DEFINITION. Operand forms: the key operand of SETKEY (R34, R53, R58), the message byte tokens (R31), IV and digest size
as HSIZE selects them (R20, R106). The mode operand of CPROC is read by the decoder (R52). -/

namespace Sys2Proof.Machine

/-- Key word `j` of 32 key bytes: `be32` of the j-th 4-byte group (R34). -/
def keyWordOfBytes (bs : Vector Byte 32) (j : Fin 8) : Word :=
  be32 bs[4 * j.val] bs[4 * j.val + 1] bs[4 * j.val + 2] bs[4 * j.val + 3]

/-- The operand of the pseudo-command SETKEYB as SETKEY's eight words (R58). -/
def keyOfBytes (bs : Vector Byte 32) : KeyWords :=
  #v[keyWordOfBytes bs 0, keyWordOfBytes bs 1, keyWordOfBytes bs 2, keyWordOfBytes bs 3,
     keyWordOfBytes bs 4, keyWordOfBytes bs 5, keyWordOfBytes bs 6, keyWordOfBytes bs 7]

/-- `IV`: 64 bytes `0x01` for 256, 64 bytes `0x00` for 512 (R20). -/
def iv : HSize → Vec
  | .h256 => vecOfBytes (List.replicate 64 0x01)
  | .h512 => vecOfBytes (List.replicate 64 0x00)

/-- How many bytes of `H` the digest is (R106). -/
def digestLength : HSize → Nat
  | .h256 => 32
  | .h512 => 64

/-- The data bytes of a packet as DIN tokens (R31). -/
def byteTokens (bs : List Byte) : List DinToken := bs.map .byte

end Sys2Proof.Machine
end

