-- ==== Sys2Proof/Machine/Cipher.lean ====
section
/-! DEFINITION. The cipher unit: data path (R65 to R75), the stream procedure (R78) and the four CPROC commands
(R79 to R81). -/

namespace Sys2Proof.Machine

/-! ## Data path -/

/-- `SCHED`, the 32 key indices (R65). -/
def schedTable : List (Fin 8) :=
  [0, 1, 2, 3, 4, 5, 6, 7, 0, 1, 2, 3, 4, 5, 6, 7] ++ [0, 1, 2, 3, 4, 5, 6, 7, 7, 6, 5, 4, 3, 2, 1, 0]

/-- `SCHED[i]`, `i` in 0..31 (R65). -/
def sched (i : Nat) : Fin 8 := schedTable.getD i 0

/-- Round-key selection `RK(mode, i)` (R66). -/
def roundKey (key : KeyWords) (m : Mode) (i : Nat) : Word :=
  match m with
  | .enc => key[sched i]
  | .dec => key[sched (31 - i)]

/-- `ADD32`: modulo 2^32, the carry discarded (R67). -/
def add32 (a k : Word) : Word := a + k

/-- `SUBST`: nibble position `b` through table `b`, back to the same position (R68). -/
def subst (cs : CSbox) (x : Word) : Word :=
  cs[0][(nibble x 0).toNat] ++ cs[1][(nibble x 1).toNat] ++ cs[2][(nibble x 2).toNat] ++ cs[3][(nibble x 3).toNat] ++
    cs[4][(nibble x 4).toNat] ++ cs[5][(nibble x 5).toNat] ++ cs[6][(nibble x 6).toNat] ++ cs[7][(nibble x 7).toNat]

/-- `ROTL11`: left by 11 bits (R69). -/
def rotl11 (y : Word) : Word := y <<< 11 ||| y >>> 21

/-- The round function: add, substitute, rotate (R70). -/
def roundF (cs : CSbox) (a k : Word) : Word := rotl11 (subst cs (add32 a k))

/-- `Round(mode, i)` on `(A, B)`: both halves from the old values (R71). -/
def round (cs : CSbox) (key : KeyWords) (m : Mode) (i : Nat) (ab : Word × Word) : Word × Word :=
  (roundF cs ab.1 (roundKey key m i) ^^^ ab.2, ab.1)

/-- `Crypt(mode)` on `(A, B)`: rounds 0 to 31 in this order (R73). -/
def crypt (cs : CSbox) (key : KeyWords) (m : Mode) (ab : Word × Word) : Word × Word :=
  (List.range 32).foldl (fun p i => round cs key m i p) ab

/-- `LoadBlock()`: the halves `(A, B)` of eight bytes, `B` the first four and `A` the last four (R72). -/
def loadHalves (x : Vector Byte 8) : Word × Word := (be32 x[4] x[5] x[6] x[7], be32 x[0] x[1] x[2] x[3])

/-- The bytes `WriteBlock()` writes: `A`, then `B` (R74). -/
def storeHalves (ab : Word × Word) : List Byte := bytesBe32 ab.1 ++ bytesBe32 ab.2

/-! ## On the working registers -/

/-- The start of `ReadBlock()`: `IBUF` zero, `ICNT = 0`, `EOS = 0` (R75). -/
def State.startBlock (s : State) : State :=
  { s with cipher := { s.cipher with ibuf := #v[0, 0, 0, 0, 0, 0, 0, 0], icnt := 0, eos := false } }

/-- `IBUF[ICNT] <- b; ICNT <- ICNT + 1` while `ICNT < 8` (R75). -/
def CipherRegs.takeByte (b : Byte) (r : CipherRegs) : CipherRegs :=
  if h : r.icnt.val < 8 then
    { r with ibuf := r.ibuf.set r.icnt.val b, icnt := ⟨r.icnt.val + 1, by omega⟩ }
  else r

/-- A byte taken from DIN into IBUF (R75). -/
def State.takeByte (b : Byte) (s : State) : State := { s with cipher := s.cipher.takeByte b }

/-- `EOS <- 1` (R75). -/
def State.markEnd (s : State) : State := { s with cipher := { s.cipher with eos := true } }

/-- `LoadBlock()` and `Crypt(mode)` on the registers (R72, R73); `RND` ends at 31. -/
def CipherRegs.transform (cs : CSbox) (key : KeyWords) (m : Mode) (r : CipherRegs) : CipherRegs :=
  { r with
    a := (crypt cs key m (loadHalves r.ibuf)).1
    b := (crypt cs key m (loadHalves r.ibuf)).2
    rnd := 31 }

/-- `LoadBlock()` and `Crypt(mode)`. -/
def State.transform (m : Mode) (s : State) : State :=
  { s with cipher := s.cipher.transform s.cfg.csbox s.key m }

/-- How `WriteBlock()` left the command. -/
inductive Flow where
  /-- the block is out and the input goes on: read the next block from this state -/
  | more (s : State)
  /-- the command waits, has ended, or has faulted: this is its state -/
  | stop (s : State)
deriving DecidableEq, Repr

/-- `WriteBlock()` from byte `k` on, and what follows it in `ProcessStream`: StreamOut discards the rest of the packet if
its `End` has not been taken (R128); after the padded final block comes the final `End`; else the next `ReadBlock`
(R74, R78). -/
def writeBlock (m : Mode) (k : Nat) (s : State) : Flow :=
  match sendBytes ((storeHalves (s.cipher.a, s.cipher.b)).drop k) s with
  | (.done, t) => if t.cipher.eos then .stop (t.finish .cipher) else .more t.startBlock
  | (.refused, t) => .stop (if t.cipher.eos then t.release .cipher .streamOut else t.drain .cipher .streamOut)
  | (.waiting left, t) => .stop (t.waitAt (.write m (8 - left)))

/-- `ProcessStream(mode)` in `ReadBlock()`, over the tokens offered (R75, R78). A full block is transformed and written
before the next token is looked at; `Err` discards the partial block (R127). -/
def readTokens (m : Mode) : List DinToken → State → State
  | [], s => (s.setDin []).waitAt (.read m)
  | .byte b :: ts, s =>
    if ((s.setDin ts).takeByte b).cipher.icnt.val < 8 then readTokens m ts ((s.setDin ts).takeByte b)
    else
      match writeBlock m 0 (((s.setDin ts).takeByte b).transform m) with
      | .more u => readTokens m ts u
      | .stop u => u
  | .endTok :: ts, s =>
    if s.cipher.icnt.val = 0 then (s.setDin ts).markEnd.finish .cipher
    else
      match writeBlock m 0 ((s.setDin ts).markEnd.transform m) with
      | .more u => u
      | .stop u => u
  | .errTok :: ts, s => (s.setDin ts).release .cipher .streamIn

/-- `ProcessStream(mode)` from inside `ReadBlock()`. -/
def State.readOn (m : Mode) (s : State) : State := readTokens m s.din s

/-- `ProcessStream(mode)` from byte `k` of `WriteBlock()`. -/
def State.writeOn (m : Mode) (k : Nat) (s : State) : State :=
  match writeBlock m k s with
  | .more u => u.readOn m
  | .stop u => u

/-- CPROC with a defined mode: KeyUnset before any token is read or written, else `ProcessStream` (R79, R80, R129). -/
def State.process (m : Mode) (s : State) : State :=
  if s.keyv then s.startBlock.readOn m else s.raise .keyUnset

/-! ## Commands -/

/-- CPROC.UNSET: `raise CfgMode` and nothing else (R81, R126). -/
def execCprocUnset (s : State) : Host.Outcome State Fault Refusal := .next (s.raise .cfgMode)

/-- CPROC.ENC (R79). -/
def execCprocEnc (s : State) : Host.Outcome State Fault Refusal := .next (s.process .enc)

/-- CPROC.DEC (R80). -/
def execCprocDec (s : State) : Host.Outcome State Fault Refusal := .next (s.process .dec)

/-- CPROC.BAD: `raise CfgMode` and nothing else (R81, R126). -/
def execCprocBad (s : State) : Host.Outcome State Fault Refusal := .next (s.raise .cfgMode)

end Sys2Proof.Machine
end

