-- ==== Sys2Proof/Machine/HashTransforms.lean ====
section
/-! DEFINITION. The transforms of the hash unit (41_hash_transforms.md): pure functions on 64-byte vectors (R95). -/

namespace Sys2Proof.Machine

/-- `V512`: the number 512 as a vector, byte 62 = 0x02 (R85). -/
def v512 : Vec := vecOfBytes (List.replicate 62 0x00 ++ [0x02, 0x00])

/-- `XOR`: bytewise, which is bitwise on the whole vector (R87). -/
def vecXor (a b : Vec) : Vec := a ^^^ b

/-- `ADD`: modulo 2^512 with `v[63]` least significant, the carry out of position 0 discarded (R86's second form). -/
def vecAdd (a b : Vec) : Vec := a + b

/-- `HPI[v]`; a byte is always in range (R32). -/
def hpiAt (c : Config) (v : Byte) : Byte := c.hpi.toList.getD v.toNat 0

/-- `S`: every byte through `HPI` (R88). -/
def sLayer (c : Config) (v : Vec) : Vec := vecOfBytes ((vecBytes v).map (hpiAt c))

/-- `P`: result byte `i` is state byte `HTAU[i]`, a gather (R89). -/
def pLayer (c : Config) (v : Vec) : Vec := vecOfBytes (c.htau.toList.map fun i => vecByte v i.val)

/-- Row `q` of the vector: bytes `8q .. 8q+7` as 64 bits, the first byte on top (R90). -/
def vecRow (v : Vec) (q : Nat) : BitVec 64 := v.extractLsb' (64 * (7 - q)) 64

/-- One row of `L`: bit `j` of the row, `j = 0` the most significant bit of its first byte, selects `HA[j]`; the selected
rows are XORed from `acc` on. `j` is the index of the first row listed (R90, D13). -/
def selectXor (row : BitVec 64) : List (BitVec 64) → Nat → BitVec 64 → BitVec 64
  | [], _, acc => acc
  | h :: hs, j, acc => selectXor row hs (j + 1) (if row.getMsbD j then acc ^^^ h else acc)

/-- The accumulator of row `q` (R90). -/
def lRow (c : Config) (v : Vec) (q : Nat) : BitVec 64 := selectXor (vecRow v q) c.ha.toList 0 0

/-- `L`: the eight accumulators, row `q` in bytes `8q .. 8q+7` (R90). -/
def lLayer (c : Config) (v : Vec) : Vec :=
  (List.range 8).foldl (fun acc q => acc <<< 64 ||| (lRow c v q).setWidth 512) 0

/-- `LPS`: S first, then P, then L (R91). -/
def lps (c : Config) (v : Vec) : Vec := lLayer c (pLayer c (sLayer c v))

/-- `HC[r]`, `r` in 0..11 (R32). -/
def hcAt (c : Config) (r : Nat) : Vec := c.hc.toList.getD r 0

/-- `KeySchedule(K, r)` (R92). -/
def keySchedule (c : Config) (k : Vec) (r : Nat) : Vec := lps c (vecXor k (hcAt c r))

/-- One round of `E` on `(T, KH)`: transform the state, advance the key, add the NEW key (R93). -/
def eRound (c : Config) (r : Nat) (p : Vec × Vec) : Vec × Vec :=
  (vecXor (lps c p.1) (keySchedule c p.2 r), keySchedule c p.2 r)

/-- `(T, KH)` after the twelve rounds of `E(K, m)` (R93). -/
def eRounds (c : Config) (k m : Vec) : Vec × Vec :=
  (List.range 12).foldl (fun p r => eRound c r p) (vecXor k m, k)

/-- `E(K, m)` (R93). -/
def eTransform (c : Config) (k m : Vec) : Vec := (eRounds c k m).1

/-- `Compress(N, h, m)` (R94). -/
def compress (c : Config) (nv h m : Vec) : Vec :=
  vecXor (vecXor (eTransform c (lps c (vecXor h nv)) m) h) m

end Sys2Proof.Machine
end

