-- ==== Sys2Proof/Machine/Hash.lean ====
section
/-! DEFINITION. HDIGEST (42_hash_digest.md). -/

namespace Sys2Proof.Machine

/-! ## The digest on the working registers -/

/-- `H <- Compress(nv, H, blk)` with the working vectors `M`, `KH`, `T` it leaves (R22, R94). -/
def HashRegs.compress (c : Config) (nv blk : Vec) (r : HashRegs) : HashRegs :=
  { r with
    m := blk
    kh := (eRounds c (lps c (vecXor r.h nv)) blk).2
    t := vecXor (eTransform c (lps c (vecXor r.h nv)) blk) r.h
    h := Machine.compress c nv r.h blk }

/-- Step 1: `H <- IV`, `N <- 0`, `SIGMA <- 0` (R101). -/
def HashRegs.init (hs : HSize) (r : HashRegs) : HashRegs := { r with h := iv hs, n := 0, sigma := 0 }

/-- The body of step 2's loop: compress with `N` before it is advanced, then advance `N` and `SIGMA` (R102). -/
def HashRegs.chunk (c : Config) (blk : Vec) (r : HashRegs) : HashRegs :=
  { r.compress c r.n blk with n := vecAdd r.n v512, sigma := vecAdd r.sigma blk }

/-- Step 2: the loop's `q = l div 64` iterations, the chunk ending at `l` first (R102). -/
def absorbChunks (c : Config) (msg : Memory) : Nat → Nat → HashRegs → HashRegs
  | 0, _, r => r
  | q + 1, l, r => absorbChunks c msg q (l - 64) (r.chunk c (vecOfBytes (memRead msg (l - 64) 64)))

/-- The padded block of step 3: `63 - l` zero bytes, the marker 0x01, then the `l` head bytes of the message (R103). -/
def paddedBlock (msg : Memory) (l : Nat) : Vec :=
  vecOfBytes (List.replicate (63 - l) 0x00 ++ [0x01] ++ memRead msg 0 l)

/-- `BV`: `bitlen = 8·l` as two big-endian bytes at offsets 62 and 63 (R104). -/
def bitLength (l : Nat) : Vec :=
  vecOfBytes (List.replicate 62 0x00 ++ [BitVec.ofNat 8 (8 * l / 256), BitVec.ofNat 8 (8 * l % 256)])

/-- Steps 3 and 4: the padded block compressed with `N` as step 2 left it, then `N` and `SIGMA` advanced (R103, R104). -/
def HashRegs.pad (c : Config) (msg : Memory) (l : Nat) (r : HashRegs) : HashRegs :=
  { r.compress c r.n (paddedBlock msg l) with
    n := vecAdd r.n (bitLength l), sigma := vecAdd r.sigma (paddedBlock msg l) }

/-- Step 5: `Compress(0, H, N)`, then `Compress(0, H, SIGMA)` (R105). -/
def HashRegs.finalise (c : Config) (r : HashRegs) : HashRegs :=
  (r.compress c 0 r.n).compress c 0 r.sigma

/-- Steps 1 to 5 on a message of `len` bytes. -/
def digestRegs (c : Config) (hs : HSize) (msg : Memory) (len : Nat) (r : HashRegs) : HashRegs :=
  ((absorbChunks c msg (len / 64) len (r.init hs)).pad c msg (len % 64)).finalise c

/-- `D`: all 64 bytes of `H`, or the first 32 (R106). -/
def digestBytes (hs : HSize) (h : Vec) : List Byte := (vecBytes h).take (digestLength hs)

/-! ## The command -/

/-- `D <- Digest()` on the state. -/
def State.computeDigest (s : State) : State :=
  { s with hash := digestRegs s.cfg s.hsize s.msg s.len s.hash }

/-- `LEN <- 0` (R100). -/
def State.startMessage (s : State) : State := { s with len := 0 }

/-- `MemWrite(LEN, 1, b); LEN <- LEN + 1` (R100). -/
def State.storeByte (b : Byte) (s : State) : State := { s with msg := memWrite s.msg s.len [b], len := s.len + 1 }

/-- The digest bytes written from byte `k` on, then the final `End`; StreamOut has nothing to discard (R100, R128). -/
def State.sendDigest (k : Nat) (s : State) : State :=
  match sendBytes ((digestBytes s.hsize s.hash.h).drop k) s with
  | (.done, t) => t.finish .hash
  | (.refused, t) => t.release .hash .streamOut
  | (.waiting left, t) => t.waitAt (.digest (digestLength s.hsize - left))

/-- HDIGEST's copy loop over the tokens offered: a byte stored at `LEN`, or MsgOverflow when the buffer is full; `End`
leads to the digest; `Err` is StreamIn (R100, R127, R130). -/
def copyTokens : List DinToken → State → State
  | [], s => (s.setDin []).waitAt .copy
  | .byte b :: ts, s =>
    if s.cfg.msgMax ≤ s.len then (s.setDin ts).drain .hash .msgOverflow
    else copyTokens ts (s.storeByte b)
  | .endTok :: ts, s => ((s.setDin ts).computeDigest).sendDigest 0
  | .errTok :: ts, s => (s.setDin ts).release .hash .streamIn

/-- HDIGEST's copy loop. -/
def State.copyOn (s : State) : State := copyTokens s.din s

/-- HDIGEST (R100): `LEN <- 0`, then the copy loop. No pre-check can fail. -/
def execHdigest (s : State) : Host.Outcome State Fault Refusal := .next s.startMessage.copyOn

end Sys2Proof.Machine
end

