-- ==== Sys2Proof/Machine/Flags.lean ====
section
/-! DEFINITION. The flags and the STATUS view (R16 to R19, R117). FLT and LASTERR are written by `State.raise` and
`State.complete`; KEYV by `State.loadKey`. The adders record no carry (R16). -/

namespace Sys2Proof.Machine

/-- FLT as it reads: bits 0 and 7 are hardwired 0 (R17). -/
def State.fltRead (s : State) : BitVec 8 := s.flt &&& 0x7e

/-- The output line `fault`: 1 exactly when `FLT ≠ 0` (R17, R136). -/
def State.faultLine (s : State) : Bool := s.fltRead != 0

/-- A bit placed in a 32-bit word. -/
def bitWord (b : Bool) : Word := if b then 1 else 0

/-- `STATUS = zext_32(FLT) | (LASTERR << 8) | (KEYV << 12) | (HSIZE256 << 13)` (R19, R117). -/
def State.status (s : State) : Word :=
  s.fltRead.setWidth 32 ||| s.lasterr.setWidth 32 <<< 8 ||| bitWord s.keyv <<< 12 |||
    bitWord (s.hsize == .h256) <<< 13

/-- All eight key registers written at once and `KEYV <- 1` (R12, R38, R76). -/
def State.loadKey (k : KeyWords) (s : State) : State := { s with key := k, keyv := true }

end Sys2Proof.Machine
end

