-- ==== Sys2Proof/Machine/Key.lean ====
section
/-! DEFINITION. SETKEY and GETKEY (40_cipher.md section 2). -/

namespace Sys2Proof.Machine

/-- SETKEY with its eight payload words (R76). -/
def execSetkey (key : KeyWords) (s : State) : Host.Outcome State Fault Refusal := .next (s.loadKey key).complete

/-- GETKEY's transfers from `KEY[j]` on: `RspWrite(KEY[j])`, …, `RspWrite(KEY[7])`, then `LASTERR <- 0` (R77). -/
def State.sendKey (j : Nat) (s : State) : State :=
  match sendRsp (s.key.toList.drop j) s with
  | (0, t) => t.complete
  | (n + 1, t) => t.waitAt (.getkey (8 - (n + 1)))

/-- GETKEY: KeyUnset before anything is written while `KEYV = 0` (R77, R129). -/
def execGetkey (s : State) : Host.Outcome State Fault Refusal :=
  if s.keyv then .next (s.sendKey 0) else .next (s.raise .keyUnset)

end Sys2Proof.Machine
end

