-- ==== Sys2Proof/Machine/System.lean ====
section
/-! DEFINITION. STAT (43_system_commands.md). -/

namespace Sys2Proof.Machine

/-- STAT's one transfer: `RspWrite(STATUS)` (R117); it writes no flag. -/
def State.sendStatus (s : State) : State :=
  match s.rspWrite s.status with
  | none => s.waitAt .stat
  | some t => t.waitAt .idle

/-- STAT (R117). -/
def execStat (s : State) : Host.Outcome State Fault Refusal := .next s.sendStatus

end Sys2Proof.Machine
end

