-- ==== Sys2Proof/Syntax.lean ====
section
/-! DEFINITION. The commands: one constructor per row of spec/opcode_table.json (R51). -/

namespace Sys2Proof

/-- The eight legal command words (R51). SETKEY carries its eight payload words (R53): "exactly 8" is in the type, so a
key of another size cannot be written down (R12, N10). The CPROC rows are the four values of the `mode` field (R52). -/
inductive Instr where
  | stat
  | setkey (key : KeyWords)
  | getkey
  | cprocUnset
  | cprocEnc
  | cprocDec
  | cprocBad
  | hdigest
deriving DecidableEq, Repr

/-- The pseudo-command ENCRYPT (R58). -/
def pseudoEncrypt : Instr := .cprocEnc

/-- The pseudo-command DECRYPT (R58). -/
def pseudoDecrypt : Instr := .cprocDec

end Sys2Proof
end

