-- ==== Sys2Proof/Machine/Dispatch.lean ====
section
/-! DEFINITION. The meaning of every command (R115). -/

namespace Sys2Proof.Machine

def exec (i : Instr) (s : State) : Host.Outcome State Fault Refusal :=
  match i with
  | .stat => Sys2Proof.Machine.execStat s
  | .setkey key => Sys2Proof.Machine.execSetkey key s
  | .getkey => Sys2Proof.Machine.execGetkey s
  | .cprocUnset => Sys2Proof.Machine.execCprocUnset s
  | .cprocEnc => Sys2Proof.Machine.execCprocEnc s
  | .cprocDec => Sys2Proof.Machine.execCprocDec s
  | .cprocBad => Sys2Proof.Machine.execCprocBad s
  | .hdigest => Sys2Proof.Machine.execHdigest s

end Sys2Proof.Machine
end

