-- ==== Sys2Proof/WellFormed.lean ====
section
/-! DEFINITION. Which words make a well-formed command (R50, R54, R55), and that every `Instr` term is one. -/

namespace Sys2Proof

/-- Check 1: the `op` field is one of the five assigned values (R55). -/
def opKnown (w : Word) : Bool :=
  Machine.opField w == 0x01 || Machine.opField w == 0x10 || Machine.opField w == 0x11 ||
    Machine.opField w == 0x12 || Machine.opField w == 0x20

/-- Check 2: every reserved bit of the word's format is 0 (R55): bits 23:2 for op 0x12, bits 23:0 for the others. -/
def rsvZero (w : Word) : Bool :=
  if Machine.opField w = 0x12 then Machine.rsvFieldM w == 0 else Machine.rsvFieldZ w == 0

/-- How many words a command takes, told from its command word alone: 9 for SETKEY with zero reserved bits, else 1,
an illegal command too (R54). -/
def commandLength (w : Word) : Nat := if w = Machine.wordZ 0x10 then 9 else 1

/-- Check 3 with checks 1 and 2: the words are one whole legal command, no word missing and none left over. -/
def wellFormedWords : List Word → Bool
  | [] => false
  | w :: ws => opKnown w && rsvZero w && (ws.length + 1 == commandLength w)

/-- The number of words of a command (R54). -/
def Instr.length : Instr → Nat
  | .stat => 1
  | .setkey _ => 9
  | .getkey => 1
  | .cprocUnset => 1
  | .cprocEnc => 1
  | .cprocDec => 1
  | .cprocBad => 1
  | .hdigest => 1

/-- Every term of `Instr` is well formed: any payload words are accepted (R53, R76) and their number is in the type.
What can be ill formed is a list of words: `wellFormedWords`. -/
def Instr.wellFormed : Instr → Bool
  | .stat => true
  | .setkey _ => true
  | .getkey => true
  | .cprocUnset => true
  | .cprocEnc => true
  | .cprocDec => true
  | .cprocBad => true
  | .hdigest => true

end Sys2Proof
end

