-- ==== Sys2Proof/Decode.lean ====
section
/-! DEFINITION. The decoder of command words (R51, R54, R55), total on any list of words, and the encoder. -/

namespace Sys2Proof

open Sys2Proof.Machine

/-- Why a word in command position is illegal (R55). The engine raises IllegalCmd for both. -/
inductive Illegal where
  /-- `op` is not one of 0x01, 0x10, 0x11, 0x12, 0x20. -/
  | unknownOp
  /-- `op` is assigned and some `rsv` bit is 1. -/
  | reservedBits
deriving DecidableEq, Repr

/-- What the command word alone tells (R54). -/
inductive Head where
  /-- a command of one word -/
  | whole (i : Instr)
  /-- SETKEY: eight payload words follow -/
  | setkey
deriving DecidableEq, Repr

/-- Format Z: legal when bits 23:0 are zero (R50, R55). -/
def formatZ (w : Word) (h : Head) : Except Illegal Head :=
  if rsvFieldZ w = 0 then .ok h else .error .reservedBits

/-- The four values of the `mode` field, all legal encodings (R52). -/
def ofMode (mode : BitVec 2) : Instr :=
  if mode = 0 then .cprocUnset else if mode = 1 then .cprocEnc else if mode = 2 then .cprocDec else .cprocBad

/-- Format M: legal when bits 23:2 are zero (R50, R55). -/
def formatM (w : Word) : Except Illegal Head :=
  if rsvFieldM w = 0 then .ok (.whole (ofMode (modeField w))) else .error .reservedBits

/-- The opcode map of R51; every other word is illegal (R55). -/
def decodeHead (w : Word) : Except Illegal Head :=
  if opField w = 0x01 then formatZ w (.whole .stat)
  else if opField w = 0x10 then formatZ w .setkey
  else if opField w = 0x11 then formatZ w (.whole .getkey)
  else if opField w = 0x12 then formatM w
  else if opField w = 0x20 then formatZ w (.whole .hdigest)
  else .error .unknownOp

/-- The eight payload words `W0 … W7` and what follows them, if all eight are there (R53). They are not decoded. -/
def takePayload : List Word → Option (KeyWords × List Word)
  | w0 :: w1 :: w2 :: w3 :: w4 :: w5 :: w6 :: w7 :: rest => some (#v[w0, w1, w2, w3, w4, w5, w6, w7], rest)
  | _ => none

/-- What the words offered on CMD begin with. -/
inductive Decoded where
  /-- no word is offered -/
  | empty
  /-- the first word is illegal; decoding resumes at the very next word (R54) -/
  | illegal (why : Illegal) (rest : List Word)
  /-- SETKEY and fewer than eight payload words so far (R46, R76) -/
  | short (payload : List Word)
  /-- a whole command, and the words after it -/
  | instr (i : Instr) (rest : List Word)
deriving DecidableEq, Repr

/-- The decoder: total on any words, rejecting by name. -/
def decode : List Word → Decoded
  | [] => .empty
  | w :: ws =>
    match decodeHead w with
    | .error why => .illegal why ws
    | .ok (.whole i) => .instr i ws
    | .ok .setkey =>
      match takePayload ws with
      | some (key, rest) => .instr (.setkey key) rest
      | none => .short ws

/-- The words of a command (R50 to R53). -/
def encode : Instr → List Word
  | .stat => [wordZ 0x01]
  | .setkey key => wordZ 0x10 :: key.toList
  | .getkey => [wordZ 0x11]
  | .cprocUnset => [wordM 0x12 0]
  | .cprocEnc => [wordM 0x12 1]
  | .cprocDec => [wordM 0x12 2]
  | .cprocBad => [wordM 0x12 3]
  | .hdigest => [wordZ 0x20]

/-- The mnemonic of a command, as R51 and R57 spell it. -/
def mnemonicOf : Instr → String
  | .stat => "STAT"
  | .setkey _ => "SETKEY"
  | .getkey => "GETKEY"
  | .cprocUnset => "CPROC.UNSET"
  | .cprocEnc => "CPROC.ENC"
  | .cprocDec => "CPROC.DEC"
  | .cprocBad => "CPROC.BAD"
  | .hdigest => "HDIGEST"

/-- A 32-bit number in hex with `0x`, most significant nibble first (R8, R57). -/
def hexWord (w : Word) : String := "0x" ++ String.ofList ((List.range 8).map fun b => Nat.digitChar (nibble w b).toNat)

/-- A command as R57 writes it: the mnemonic, then for SETKEY the eight words, `KEY[0]` first, separated by commas. -/
def asmLine : Instr → String
  | .setkey key => mnemonicOf (.setkey key) ++ " " ++ String.intercalate ", " (key.toList.map hexWord)
  | .stat => mnemonicOf .stat
  | .getkey => mnemonicOf .getkey
  | .cprocUnset => mnemonicOf .cprocUnset
  | .cprocEnc => mnemonicOf .cprocEnc
  | .cprocDec => mnemonicOf .cprocDec
  | .cprocBad => mnemonicOf .cprocBad
  | .hdigest => mnemonicOf .hdigest

/-- Word `k` of the number `w`, 32 bits a word, the first word the least significant (opcode_table.json's numbering). -/
def tableWord (w k : Nat) : Word := BitVec.ofNat 32 (w >>> (32 * k))

/-- The words of the instruction whose lowest `nbits` bits are `w` and whose other bits are 0: as many as the command
word says the command takes (R54). -/
def tableWords (nbits w : Nat) : List Word :=
  (List.range (commandLength (tableWord (w % 2 ^ nbits) 0))).map (tableWord (w % 2 ^ nbits))

/-- What the decoder reads from the instruction whose bits are `w`. -/
def decodeTableWord (nbits w : Nat) : Option Instr :=
  match decode (tableWords nbits w) with
  | .instr i _ => some i
  | .empty => none
  | .illegal _ _ => none
  | .short _ => none

end Sys2Proof
end

