-- ==== Sys2Proof/Machine/Resume.lean ====
section
/-! DEFINITION. A command in progress goes on from the port transfer it waits in (R46, R116). -/

namespace Sys2Proof.Machine

/-- The rest of the command in progress. `idle` and `payload` belong to the fetch of the next command. -/
def State.resume (s : State) : State :=
  match s.phase with
  | .idle => s
  | .payload _ => s
  | .stat => s.sendStatus
  | .getkey j => s.sendKey j
  | .read m => s.readOn m
  | .write m k => s.writeOn m k
  | .copy => s.copyOn
  | .digest k => s.sendDigest k
  | .lastEnd u => s.finish u
  | .drain u f => s.drain u f
  | .release u f => s.release u f

end Sys2Proof.Machine
end

