-- ==== Sys2Proof/Machine/Fetch.lean ====
section
/-! DEFINITION. The command loop up to the command itself: reset, waiting for words, illegal words, SETKEY's payload, and
the command in progress (R54, R76, R115, R132, R150). -/

namespace Sys2Proof.Machine

/-- What one turn of the command loop comes to. -/
inductive Fetched where
  /-- run this command from this state, its words taken from CMD -/
  | run (i : Instr) (s : State)
  /-- no command starts: this is the next state -/
  | done (s : State)
deriving DecidableEq, Repr

/-- At command position: `CmdRead()` and decode (R115). An empty CMD waits; an illegal word is taken and raises
IllegalCmd; SETKEY takes the payload words offered and waits for the others. -/
def State.fetchCommand (s : State) : Fetched :=
  match decode s.cmd with
  | .empty => .done s
  | .illegal _ rest => .done ((s.setCmd rest).raise .illegalCmd)
  | .short got => .done ((s.setCmd []).waitAt (.payload got))
  | .instr i rest => .run i (s.setCmd rest)

/-- SETKEY waiting with the payload words `got`: it takes the words offered until it has eight (R76). -/
def State.fetchPayload (got : List Word) (s : State) : Fetched :=
  match takePayload (got ++ s.cmd) with
  | some (key, rest) => .run (.setkey key) ((s.setCmd rest).waitAt .idle)
  | none => .done ((s.setCmd []).waitAt (.payload (got ++ s.cmd)))

/-- One turn of the command loop; `rst` comes before everything (R150). -/
def State.fetch (s : State) : Fetched :=
  if s.rst then .done s.resetMove
  else
    match s.phase with
    | .idle => s.fetchCommand
    | .payload got => s.fetchPayload got
    | .stat => .done s.resume
    | .getkey _ => .done s.resume
    | .read _ => .done s.resume
    | .write _ _ => .done s.resume
    | .copy => .done s.resume
    | .digest _ => .done s.resume
    | .lastEnd _ => .done s.resume
    | .drain _ _ => .done s.resume
    | .release _ _ => .done s.resume

/-- The words of an instruction offered first on CMD, the engine released from reset and at command position. -/
def State.offerFirst (ws : List Word) (s : State) : State :=
  { s with cmd := ws ++ s.cmd, phase := .idle, rst := false }

end Sys2Proof.Machine
end

