-- ==== Sys2Proof/Machine/Step.lean ====
section
/-! DEFINITION. One step of the machine: one turn of the command loop (R115). -/

namespace Sys2Proof.Machine

/-- One turn of the command loop. A command runs as far as the items offered on its ports let it go; if they do not
suffice it waits, which is a next state with the command in progress (R46, R116). -/
def step (s : State) : Host.Outcome State Fault Refusal :=
  match s.fetch with
  | .run i t => exec i t
  | .done t => .next t

/-- `s` with the instruction whose lowest `nbits` bits are `w` and whose other bits are 0 offered first on CMD, so that
the next step takes and runs it (log entry 5). -/
def State.withFetchWord (s : State) (nbits w : Nat) : State := s.offerFirst (tableWords nbits w)

end Sys2Proof.Machine
end

