-- ==== Sys2Proof/Safety.lean ====
section
/-! DEFINITION. The terms claims are made in: what the environment offers, what a command put out, the invariant of the
machine, the frames, and list-level readings of the stream and digest rules (R31, R41, R75, R78, R86, R101 to R106). -/

namespace Sys2Proof.Machine

/-! ## What the environment offers -/

/-- The sink's answer to the `j`-th write from now on (R31). -/
def State.sinkAt (s : State) (j : Nat) : Option Answer := (s.sink[j]?).or s.sinkAfter

/-- The next `n` DOUT writes are answered `ok`. -/
abbrev State.SinkOk (s : State) (n : Nat) : Prop := ∀ j < n, s.sinkAt j = some .ok

/-- The host takes at least `n` more RSP words (R46). -/
def State.RspTakes (s : State) (n : Nat) : Prop :=
  match s.rspRoom with
  | none => True
  | some k => n ≤ k

/-- A packet of data bytes that ends well, and the tokens after it (R31). -/
def packet (bs : List Byte) (rest : List DinToken) : List DinToken := byteTokens bs ++ .endTok :: rest

/-- A packet of data bytes that ends with `Err`, and the tokens after it (R31). -/
def brokenPacket (bs : List Byte) (rest : List DinToken) : List DinToken := byteTokens bs ++ .errTok :: rest

/-- The environment offers more between two steps: DIN tokens `ys` after those offered, and the sink's answers `bs`, then
`a`, after those it had given (R30, R31). -/
def State.offerMore (ys : List DinToken) (bs : List Answer) (a : Option Answer) (s : State) : State :=
  { s with din := s.din ++ ys, sink := s.sink ++ bs, sinkAfter := a }

/-- The answers `bs`, then `a`, can follow those the sink has given: it says nothing new, or it had stopped taking. -/
def State.CanAnswer (bs : List Answer) (a : Option Answer) (s : State) : Prop :=
  (bs = [] ∧ a = s.sinkAfter) ∨ s.sinkAfter = none

/-! ## What a command put out -/

/-- The writes of data bytes, all answered `ok`. -/
def okBytes (bs : List Byte) : List DoutEvent := bs.map fun b => { token := .byte b, answer := .ok }

/-- The state after DOUT writes with the sink's answers. -/
def State.wrote (es : List DoutEvent) (s : State) : State :=
  { s with sink := s.sink.drop es.length, dout := s.dout ++ es }

/-- The data bytes a list of DOUT writes carries. -/
def dataBytes (es : List DoutEvent) : List Byte :=
  es.filterMap fun e => match e.token with
    | .byte b => some b
    | .endTok => none

/-- The CPROC command of a defined mode (R52). -/
def cprocOf : Mode → Instr
  | .enc => .cprocEnc
  | .dec => .cprocDec

/-- The final `End` of a packet, with the sink's answer. -/
def endEvent (a : Answer) : DoutEvent := { token := .endTok, answer := a }

/-- A data byte the sink refused. -/
def refusedByte (b : Byte) : DoutEvent := { token := .byte b, answer := .err }

/-- `t` waits at the port transfer `p`: since `s` the writes `es` have gone out, `rest` is left on DIN, and neither a fault
nor a completion is recorded yet (R46). -/
def State.WaitsAfter (s : State) (p : Phase) (es : List DoutEvent) (rest : List DinToken) (t : State) : Prop :=
  t.phase = p ∧ t.dout = s.dout ++ es ∧ t.din = rest ∧ t.flt = s.flt ∧ t.lasterr = s.lasterr

/-- FLT and LASTERR as they were. -/
def sameResult (s t : State) : Prop := t.lasterr = s.lasterr ∧ t.flt = s.flt

/-- How a command other than STAT ends (R18, R131): LASTERR is 0 and FLT as before, or LASTERR is the code of a fault whose
bit FLT has now. -/
def RecordsEnd (s t : State) : Prop :=
  t.lasterr = 0 ∧ t.flt = s.flt ∨ ∃ f : Fault, t.lasterr = f.code ∧ t.flt = s.flt ||| f.bit

/-- No fault recorded since reset: R135's reading of a good run. -/
def State.NoFault (s : State) : Prop := s.fltRead = 0

/-- The run of a finite command stream is over (R119): no word offered and no command in progress. -/
def State.runOver (s : State) : Bool := s.phase == .idle && s.cmd.isEmpty

/-! ## The invariant -/

/-- What holds in a phase: the key is valid where it is used (R129), counters are in range (R15, R75, R77, R100), a fault
waits for its release only where R127, R128 and R130 raise it. -/
def State.PhaseInv (s : State) : Prop :=
  match s.phase with
  | .idle => True
  | .payload got => got.length < 8
  | .stat => True
  | .getkey j => s.keyv = true ∧ j < 8
  | .read _ => s.keyv = true ∧ s.cipher.icnt.val < 8
  | .write _ k => s.keyv = true ∧ k < 8
  | .copy => True
  | .digest k => k < digestLength s.hsize
  | .lastEnd _ => True
  | .drain u f => (u = .cipher ∧ f = .streamOut) ∨ (u = .hash ∧ f = .msgOverflow)
  | .release u f => f = .streamIn ∨ f = .streamOut ∨ (u = .hash ∧ f = .msgOverflow)

/-- LASTERR is 0 or the code of a recorded fault (R17, R18). -/
def State.FaultInv (s : State) : Prop :=
  s.flt &&& 0x81 = 0 ∧ (s.lasterr = 0 ∨ ∃ f : Fault, s.lasterr = f.code ∧ s.flt &&& f.bit = f.bit)

/-- The message buffer: canonical, inside its capacity, `LEN` in range (R23, R33). -/
def State.BufferInv (s : State) : Prop :=
  Memory.wf s.msg ∧ (∀ c ∈ s.msg, c.1 < s.cfg.msgMax) ∧ s.len ≤ s.cfg.msgMax

/-- The invariant of the machine. -/
def State.Inv (s : State) : Prop := s.FaultInv ∧ s.BufferInv ∧ s.PhaseInv

/-! ## Frames -/

/-- The key registers unchanged. -/
def sameKey (s t : State) : Prop := t.key = s.key ∧ t.keyv = s.keyv

/-- What no command changes: size, strap, `rst`, parameters, and the words after the command's own. -/
def sameInstance (s t : State) : Prop :=
  t.hsize = s.hsize ∧ t.cfgHsize = s.cfgHsize ∧ t.rst = s.rst ∧ t.cfg = s.cfg ∧ t.cmd = s.cmd

/-- The response port untouched. -/
def sameRsp (s t : State) : Prop := t.rsp = s.rsp ∧ t.rspRoom = s.rspRoom

/-- The hash unit untouched, every byte of MSG included. -/
def sameHash (s t : State) : Prop :=
  t.hash = s.hash ∧ t.len = s.len ∧ ∀ a, memByte t.msg a = memByte s.msg a

/-- The cipher unit untouched. -/
def sameCipher (s t : State) : Prop := t.cipher = s.cipher

/-- What a CPROC leaves unchanged besides DIN, DOUT, FLT and LASTERR. -/
def cipherFrame (s t : State) : Prop := sameKey s t ∧ sameInstance s t ∧ sameRsp s t ∧ sameHash s t

/-- What an HDIGEST leaves unchanged besides DIN, DOUT, FLT, LASTERR and the message buffer. -/
def hashFrame (s t : State) : Prop := sameKey s t ∧ sameInstance s t ∧ sameRsp s t ∧ sameCipher s t

/-! ## The stream rules on lists -/

/-- How many blocks `len` bytes make: `ceil(len/8)` (R78). -/
def blockCount (len : Nat) : Nat := (len + 7) / 8

/-- Block `n` of the data, zero-padded on the right (R75). -/
def blockAt (bs : List Byte) (n : Nat) : Vector Byte 8 :=
  #v[bs.getD (8 * n) 0, bs.getD (8 * n + 1) 0, bs.getD (8 * n + 2) 0, bs.getD (8 * n + 3) 0,
     bs.getD (8 * n + 4) 0, bs.getD (8 * n + 5) 0, bs.getD (8 * n + 6) 0, bs.getD (8 * n + 7) 0]

/-- One block through the cipher: load, 32 rounds, store (R72 to R74). -/
def blockImage (cs : CSbox) (key : KeyWords) (m : Mode) (x : Vector Byte 8) : List Byte :=
  storeHalves (crypt cs key m (loadHalves x))

/-- The first `n` blocks of the data, each through the cipher on its own (R78). -/
def blockImages (cs : CSbox) (key : KeyWords) (m : Mode) (bs : List Byte) (n : Nat) : List Byte :=
  (List.range n).flatMap fun k => blockImage cs key m (blockAt bs k)

/-- The whole stream: every block of the padded data (R78). -/
def streamImage (cs : CSbox) (key : KeyWords) (m : Mode) (bs : List Byte) : List Byte :=
  blockImages cs key m bs (blockCount bs.length)

/-- The data zero-padded to a multiple of eight bytes (R82). -/
def zeroPad (bs : List Byte) : List Byte := bs ++ List.replicate (8 * blockCount bs.length - bs.length) 0x00

/-! ## The digest rules on lists -/

/-- A vector as a number: `Σ v[i]·256^(63-i)` (R86). -/
def vecNum (v : Vec) : Nat := ((List.range 64).map fun i => (vecByte v i).toNat * 256 ^ (63 - i)).sum

/-- R86's loop: positions 63 down to 0, the carry out of each going to the next; the last carry is dropped. -/
def addByteLoop (a b : Vec) : Vec :=
  vecOfBytes ((List.range 64).foldr
    (fun i p =>
      let sum := (vecByte a i).toNat + (vecByte b i).toNat + p.1
      (sum / 256, BitVec.ofNat 8 (sum % 256) :: p.2))
    (0, [])).2

/-- Byte `t` of row `q` of `L` by R90's loop: bit `j` of the row, from the top of its first byte, selects `HA[j]`. -/
def lLoopByte (c : Config) (v : Vec) (q t : Nat) : Byte :=
  (List.range 64).foldl
    (fun acc j =>
      if (vecByte v (8 * q + j / 8)).getLsbD (7 - j % 8) then
        acc ^^^ (c.ha.toList.getD j 0).extractLsb' (8 * (7 - t)) 8
      else acc)
    0

/-- Chunk `k` of the message from its tail: the 64 bytes that end `64·k` bytes before its end (R102). -/
def tailChunk (bs : List Byte) (k : Nat) : Vec := vecOfBytes ((bs.drop (bs.length - 64 * (k + 1))).take 64)

/-- Steps 1 and 2 after `k` chunks: `(H, N, SIGMA)` (R101, R102). -/
def absorbed (c : Config) (hs : HSize) (bs : List Byte) : Nat → Vec × Vec × Vec
  | 0 => (iv hs, 0, 0)
  | k + 1 =>
    let p := absorbed c hs bs k
    (compress c p.2.1 p.1 (tailChunk bs k), vecAdd p.2.1 v512, vecAdd p.2.2 (tailChunk bs k))

/-- The padded block of the message: zeros, the marker, the head of the message (R103). -/
def headBlock (bs : List Byte) : Vec :=
  vecOfBytes (List.replicate (63 - bs.length % 64) 0x00 ++ [0x01] ++ bs.take (bs.length % 64))

/-- The digest of a message as the six steps give it, on the message itself and not on the buffer (R101 to R106). -/
def messageDigest (c : Config) (hs : HSize) (bs : List Byte) : List Byte :=
  let p := absorbed c hs bs (bs.length / 64)
  let h3 := compress c p.2.1 p.1 (headBlock bs)
  let n4 := vecAdd p.2.1 (bitLength (bs.length % 64))
  let sigma4 := vecAdd p.2.2 (headBlock bs)
  digestBytes hs (compress c 0 (compress c 0 h3 n4) sigma4)

end Sys2Proof.Machine
end

