-- ==== Sys2Proof/Certificates/Slice0/Obligations.lean ====
section
/-! DEFINITION. The statements for the provers. Each docstring names the rule or rules the statement formalises. -/

open Sys2Proof Sys2Proof.Machine

/-! ## Encoding and the command loop -/

/-- R51: the eight words of the opcode map, written out, decode to their rows, SETKEY with the eight payload words after
it; every other word is illegal. -/
def Obligations.OpcodeMapIsExact : Prop :=
  (decodeHead 0x01000000 = .ok (.whole .stat) ∧ decodeHead 0x10000000 = .ok .setkey ∧
    decodeHead 0x11000000 = .ok (.whole .getkey) ∧ decodeHead 0x12000000 = .ok (.whole .cprocUnset) ∧
    decodeHead 0x12000001 = .ok (.whole .cprocEnc) ∧ decodeHead 0x12000002 = .ok (.whole .cprocDec) ∧
    decodeHead 0x12000003 = .ok (.whole .cprocBad) ∧ decodeHead 0x20000000 = .ok (.whole .hdigest)) ∧
  (∀ (k : KeyWords) (rest : List Word), decode (0x10000000 :: (k.toList ++ rest)) = .instr (.setkey k) rest) ∧
  ∀ w : Word,
    w ∉ [0x01000000, 0x10000000, 0x11000000, 0x12000000, 0x12000001, 0x12000002, 0x12000003, 0x20000000] →
      ∃ why, decodeHead w = .error why

/-- R51 through the numbering of opcode_table.json: a sanity statement on a few words written out from the spec. -/
def Obligations.TableWordsDecode : Prop :=
  decodeTableWord 32 0x01000000 = some .stat ∧
  decodeTableWord 32 0x10000000 = some (.setkey #v[0, 0, 0, 0, 0, 0, 0, 0]) ∧
  decodeTableWord 32 0x12000001 = some .cprocEnc ∧
  decodeTableWord 32 0x20000000 = some .hdigest ∧
  decodeTableWord 32 0x12000004 = none ∧
  decodeTableWord 32 0x00000000 = none

/-- Decode and encode agree on every command, SETKEY with every payload, whatever follows on CMD (R50, R51, R53, R54). -/
def Obligations.DecodeOfEncode : Prop :=
  ∀ (i : Instr) (rest : List Word), decode (encode i ++ rest) = .instr i rest

/-- Every legal command has one encoding: what decodes to a command is the words of that command (R51, R55). -/
def Obligations.EncodeOfDecode : Prop :=
  ∀ (ws : List Word) (i : Instr) (rest : List Word), decode ws = .instr i rest → ws = encode i ++ rest

/-- R55, R132: which words are illegal, and that an illegal command takes its one word, touches no port but CMD and
changes no state but by raising IllegalCmd. -/
def Obligations.IllegalWordsExactly : Prop :=
  (∀ (w : Word) (ws : List Word),
    (∃ why, decode (w :: ws) = .illegal why ws) ↔
      (opField w ∉ [0x01, 0x10, 0x11, 0x12, 0x20] ∨
        (opField w ∈ [0x01, 0x10, 0x11, 0x20] ∧ rsvFieldZ w ≠ 0) ∨
        (opField w = 0x12 ∧ rsvFieldM w ≠ 0))) ∧
  ∀ (s : State) (why : Illegal) (rest : List Word),
    s.rst = false → s.phase = .idle → decode s.cmd = .illegal why rest →
      step s = .next { s with cmd := rest, flt := s.flt ||| 0x10, lasterr := 4 }

/-- R54: the command word alone tells the length, 9 for SETKEY with zero reserved bits and 1 for every other word; after an
illegal word decoding resumes at the very next one. -/
def Obligations.LengthFromCommandWord : Prop :=
  ∀ (w : Word) (ws : List Word),
    commandLength w = (if opField w = 0x10 ∧ rsvFieldZ w = 0 then 9 else 1) ∧
    (∀ i rest, decode (w :: ws) = .instr i rest → ws.length + 1 = commandLength w + rest.length) ∧
    (∀ why rest, decode (w :: ws) = .illegal why rest → commandLength w = 1 ∧ rest = ws)

/-- R115, R13: at command position, out of reset, when the words on CMD decode to a command, the step is that command run
with its words taken. That one step is one whole turn of the command loop is the model's (log entry 12). -/
def Obligations.StepRunsDecodedCommand : Prop :=
  ∀ (s : State) (i : Instr) (rest : List Word),
    s.rst = false → s.phase = .idle → decode s.cmd = .instr i rest → step s = exec i { s with cmd := rest }

/-- R46, R76: SETKEY takes the payload words that have arrived and waits for the others with KEY and KEYV unchanged; when
eight are there it is SETKEY of those eight in arrival order. That the words taken stand in `phase` is the model's
(log entry 12). -/
def Obligations.SetkeyWaitsForPayload : Prop :=
  ∀ s : State, s.rst = false →
    (∀ ws, s.phase = .idle → s.cmd = wordZ 0x10 :: ws → ws.length < 8 →
      step s = .next { s with cmd := [], phase := .payload ws }) ∧
    (∀ got, s.phase = .payload got → (got ++ s.cmd).length < 8 →
      step s = .next { s with cmd := [], phase := .payload (got ++ s.cmd) }) ∧
    (∀ got (k : KeyWords) rest, s.phase = .payload got → got ++ s.cmd = k.toList ++ rest →
      step s = exec (.setkey k) { s with cmd := rest, phase := .idle })

/-- R46, R116: with nothing on CMD the engine waits unchanged, and a command in progress (SETKEY apart, whose payload is on
CMD) goes on and looks at no command word: whatever words CMD holds, it does the same and leaves them there. That a wait is
a next state is the model's (log entry 12). -/
def Obligations.StepWaitsOrGoesOn : Prop :=
  ∀ s : State, s.rst = false →
    (s.phase = .idle → s.cmd = [] → step s = .next s) ∧
    (s.phase ≠ .idle → (∀ got, s.phase ≠ .payload got) →
      step s = .next s.resume ∧ s.resume.cmd = s.cmd ∧
      ∀ ws, step { s with cmd := ws } = .next { s.resume with cmd := ws })

/-- R131, R135: no step stops the engine. After any fault it takes the next command. That a wait (R46) is a next state too
is the model's (log entry 12). -/
def Obligations.StepAlwaysContinues : Prop := ∀ s : State, ∃ t, step s = .next t

/-! ## Status and key commands -/

/-- R117: STAT writes one RSP word, STATUS, and changes nothing else; while the host takes no word it waits, and goes on when
the host takes one (R46, log entry 12). -/
def Obligations.StatWritesStatus : Prop :=
  ∀ s : State,
    s.status = s.fltRead.setWidth 32 ||| (s.lasterr.setWidth 32 <<< 8) ||| ((if s.keyv then 1 else 0) <<< 12) |||
      ((if s.hsize = .h256 then 1 else 0) <<< 13) ∧
    (s.RspTakes 1 →
      exec .stat s =
        .next { s with rsp := s.rsp ++ [s.status], rspRoom := s.rspRoom.map (· - 1), phase := .idle }) ∧
    (s.rspRoom = some 0 → exec .stat s = .next { s with phase := .stat }) ∧
    (s.rst = false → s.phase = .stat → s.RspTakes 1 →
      step s = .next { s with rsp := s.rsp ++ [s.status], rspRoom := s.rspRoom.map (· - 1), phase := .idle }) ∧
    (s.rst = false → s.phase = .stat → s.rspRoom = some 0 → step s = .next s)

/-- R19: the fields of STATUS, and FLT's two hardwired bits (R17). -/
def Obligations.StatusFields : Prop :=
  ∀ s : State,
    s.status.extractLsb' 0 8 = s.fltRead ∧ s.status.extractLsb' 8 4 = s.lasterr ∧
    s.status.getLsbD 12 = s.keyv ∧ s.status.getLsbD 13 = (s.hsize == .h256) ∧
    s.status.extractLsb' 14 18 = 0 ∧
    s.fltRead.getLsbD 0 = false ∧ s.fltRead.getLsbD 7 = false ∧ s.fltRead.extractLsb' 1 6 = s.flt.extractLsb' 1 6

/-- R76: SETKEY with its eight payload words replaces all eight key registers, sets KEYV, sets LASTERR to 0, and changes
nothing else. -/
def Obligations.SetkeyLoadsKey : Prop :=
  ∀ (k : KeyWords) (s : State),
    exec (.setkey k) s = .next { s with key := k, keyv := true, lasterr := 0, phase := .idle }

/-- R77: with a valid key GETKEY writes the eight key words to RSP, KEY[0] first, and sets LASTERR to 0; while the host
takes fewer it waits with the words taken written (R46, log entry 12). -/
def Obligations.GetkeyReadsBack : Prop :=
  ∀ s : State, s.keyv = true →
    (s.RspTakes 8 →
      exec .getkey s =
        .next { s with rsp := s.rsp ++ s.key.toList, rspRoom := s.rspRoom.map (· - 8), lasterr := 0, phase := .idle }) ∧
    (∀ k, k < 8 → s.rspRoom = some k →
      exec .getkey s = .next { s with rsp := s.rsp ++ s.key.toList.take k, rspRoom := some 0, phase := .getkey k })

/-- R46, R77: GETKEY waiting before KEY[j] goes on with KEY[j] when the host takes words again, to its end, or to the next
wait if the host takes only `k` of the words left (log entry 12). -/
def Obligations.GetkeyGoesOn : Prop :=
  ∀ (s : State) (j : Nat), s.rst = false → s.phase = .getkey j → j < 8 →
    (s.RspTakes (8 - j) →
      step s = .next { s with
        rsp := s.rsp ++ s.key.toList.drop j, rspRoom := s.rspRoom.map (· - (8 - j)), lasterr := 0, phase := .idle }) ∧
    (∀ k, k < 8 - j → s.rspRoom = some k →
      step s = .next { s with
        rsp := s.rsp ++ (s.key.toList.drop j).take k, rspRoom := some 0, phase := .getkey (j + k) })

/-! ## Faults -/

/-- R131 with R125's codes: fault entry sets the fault's bit of FLT and its code in LASTERR, ends the command, and changes
nothing else. -/
def Obligations.FaultEntryRecordsCode : Prop :=
  (Fault.cfgMode.code = 1 ∧ Fault.streamIn.code = 2 ∧ Fault.streamOut.code = 3 ∧ Fault.illegalCmd.code = 4 ∧
    Fault.keyUnset.code = 5 ∧ Fault.msgOverflow.code = 6) ∧
  ∀ (f : Fault) (s : State),
    s.raise f = { s with flt := s.flt ||| 1 <<< f.code.toNat, lasterr := f.code, phase := .idle }

/-- R126: CPROC with an unset or invalid mode is fault entry with code 1 and nothing else: no token taken or written, the
key not examined. -/
def Obligations.UndefinedModeFaults : Prop :=
  ∀ s : State,
    exec .cprocUnset s = .next { s with flt := s.flt ||| 0x02, lasterr := 1, phase := .idle } ∧
    exec .cprocBad s = .next { s with flt := s.flt ||| 0x02, lasterr := 1, phase := .idle }

/-- R129: with KEYV = 0, CPROC.ENC, CPROC.DEC and GETKEY are fault entry with code 5 and nothing else. -/
def Obligations.KeyUnsetBeforeIo : Prop :=
  ∀ s : State, s.keyv = false →
    exec .cprocEnc s = .next { s with flt := s.flt ||| 0x20, lasterr := 5, phase := .idle } ∧
    exec .cprocDec s = .next { s with flt := s.flt ||| 0x20, lasterr := 5, phase := .idle } ∧
    exec .getkey s = .next { s with flt := s.flt ||| 0x20, lasterr := 5, phase := .idle }

/-- R17, R131, R133: out of reset a step keeps every FLT bit. A step that adds to FLT adds one fault's bit, leaves its code in
LASTERR, and ends the command, so that a command adds at most one however many steps it takes. -/
def Obligations.FaultBitsAreSticky : Prop :=
  ∀ s t : State, s.rst = false → step s = .next t →
    t.flt = s.flt ∨ ∃ f : Fault, t.flt = s.flt ||| f.bit ∧ t.lasterr = f.code ∧ t.phase = .idle

/-! ## The cipher data path -/

/-- R65: the schedule's closed form. -/
def Obligations.ScheduleClosedForm : Prop :=
  (∀ i, i ≤ 23 → (sched i).val = i % 8) ∧ ∀ i, 24 ≤ i → i ≤ 31 → (sched i).val = 31 - i

/-- R66: round-key selection, and the DEC key-index sequence written out. -/
def Obligations.RoundKeySelection : Prop :=
  (∀ (key : KeyWords) (i : Nat), i < 32 →
    roundKey key .enc i = key[sched i] ∧ roundKey key .dec i = key[sched (31 - i)]) ∧
  (List.range 32).map (fun i => (sched (31 - i)).val) =
    [0, 1, 2, 3, 4, 5, 6, 7, 7, 6, 5, 4, 3, 2, 1, 0, 7, 6, 5, 4, 3, 2, 1, 0, 7, 6, 5, 4, 3, 2, 1, 0]

/-- R67: addition modulo 2^32. -/
def Obligations.Add32Wraps : Prop :=
  ∀ a k : Word, (add32 a k).toNat = (a.toNat + k.toNat) % 2 ^ 32

/-- R68: every nibble position goes through its own table and back to the same position, for any tables. -/
def Obligations.SubstActsPerNibble : Prop :=
  ∀ (cs : CSbox) (x : Word) (b : Fin 8), nibble (subst cs x) b.val = cs[b][(nibble x b.val).toNat]

/-- R69: bits 31:21 become bits 10:0 and bits 20:0 become bits 31:11. -/
def Obligations.RotateLeftEleven : Prop :=
  ∀ y : Word, (rotl11 y).extractLsb' 0 11 = y.extractLsb' 21 11 ∧ (rotl11 y).extractLsb' 11 21 = y.extractLsb' 0 21

/-- R70 (marked derived in the spec), R71: the round function is add, substitute, rotate; both new halves come from the old
ones. -/
def Obligations.RoundUsesOldHalves : Prop :=
  ∀ (cs : CSbox) (key : KeyWords) (m : Mode) (i : Nat) (a b k : Word),
    roundF cs a k = rotl11 (subst cs (add32 a k)) ∧
    round cs key m i (a, b) = (roundF cs a (roundKey key m i) ^^^ b, a)

/-- R8, R34, R72, R74: big-endian words; a block's first four bytes are B on input and its last four are A; A goes out
first. That the bytes of an output half go out most significant first is R34's own inference. -/
def Obligations.BlockByteOrder : Prop :=
  (∀ b0 b1 b2 b3 : Byte,
    (be32 b0 b1 b2 b3).toNat = b0.toNat * 2 ^ 24 + b1.toNat * 2 ^ 16 + b2.toNat * 2 ^ 8 + b3.toNat) ∧
  ∀ x : Vector Byte 8,
    (loadHalves x).2 = be32 x[0] x[1] x[2] x[3] ∧ (loadHalves x).1 = be32 x[4] x[5] x[6] x[7] ∧
    storeHalves (loadHalves x) = [x[4], x[5], x[6], x[7], x[0], x[1], x[2], x[3]]

/-- R82 (marked derived in the spec) on one block: for every table, key and block, decrypting the encrypted block
gives the block back. No table need be a permutation (U19). -/
def Obligations.BlockRoundTrip : Prop :=
  ∀ (cs : CSbox) (key : KeyWords) (x y : Vector Byte 8),
    y.toList = blockImage cs key .enc x → blockImage cs key .dec y = x.toList

/-- R84: when all eight key words are equal, encryption and decryption are the same function. -/
def Obligations.EqualRoundKeysMakeModesEqual : Prop :=
  ∀ (cs : CSbox) (key : KeyWords) (ab : Word × Word), (∀ j k : Fin 8, key[j] = key[k]) →
    crypt cs key .enc ab = crypt cs key .dec ab

/-! ## CPROC on streams -/

/-- R78 to R80: with a valid key, a packet that ends well and a sink that answers ok, CPROC.ENC and CPROC.DEC write every
block of the zero-padded data, each transformed on its own, and one End; they consume the packet through its End, set
LASTERR to 0, and leave the key, FLT, RSP, the rest of CMD, the parameters and the hash unit unchanged. -/
def Obligations.CprocStreamCompletes : Prop :=
  ∀ (m : Mode) (s : State) (bs : List Byte) (rest : List DinToken),
    s.keyv = true → s.din = packet bs rest → s.SinkOk (8 * blockCount bs.length + 1) →
    ∃ t, exec (cprocOf m) s = .next t ∧
      t.dout = s.dout ++ okBytes (streamImage s.cfg.csbox s.key m bs) ++ [endEvent .ok] ∧
      (streamImage s.cfg.csbox s.key m bs).length = 8 * blockCount bs.length ∧
      t.din = rest ∧ t.sink = s.sink.drop (8 * blockCount bs.length + 1) ∧ t.sinkAfter = s.sinkAfter ∧
      t.lasterr = 0 ∧ t.flt = s.flt ∧ t.phase = .idle ∧ cipherFrame s t

/-- R82 (marked derived in the spec) on the machine: CPROC.DEC on the bytes CPROC.ENC wrote gives
the data followed by zeros to the next multiple of 8, for every data, key and table. -/
def Obligations.DecryptionUndoesEncryption : Prop :=
  ∀ (s : State) (bs : List Byte) (rest : List DinToken),
    s.keyv = true → s.din = packet bs rest → s.SinkOk (2 * (8 * blockCount bs.length + 1)) →
    ∃ t, exec .cprocEnc s = .next t ∧
      ∃ u, exec .cprocDec { t with din := packet (dataBytes (t.dout.drop s.dout.length)) t.din } = .next u ∧
        u.dout = t.dout ++ okBytes (zeroPad bs) ++ [endEvent .ok] ∧ u.din = rest

/-- R41(c), R46, R75: while the packet has not ended, CPROC has written every whole block it was given and waits in
ReadBlock with the bytes of the next block in IBUF. That this is one step is the model's (log entry 12). -/
def Obligations.CprocWaitsForInput : Prop :=
  ∀ (m : Mode) (s : State) (bs : List Byte),
    s.keyv = true → s.din = byteTokens bs → s.SinkOk (8 * (bs.length / 8)) →
    ∃ t, exec (cprocOf m) s = .next t ∧ t.phase = .read m ∧ t.din = [] ∧
      t.dout = s.dout ++ okBytes (blockImages s.cfg.csbox s.key m bs (bs.length / 8)) ∧
      t.cipher.icnt.val = bs.length % 8 ∧ t.cipher.ibuf = blockAt bs (bs.length / 8) ∧ t.cipher.eos = false ∧
      t.lasterr = s.lasterr ∧ t.flt = s.flt ∧ cipherFrame s t

/-- R31, R46: it does not matter in what pieces the tokens and the sink's answers arrive. Wherever a CPROC waits (ReadBlock,
a byte of a block, the final End, the discarding of a packet, the End of a release), it goes on, with what is offered
next, to the state it reaches when all is offered at once: the model's way of waiting (log entry 12) loses nothing. A
CPROC that has ended leaves the later offers as they are. -/
def Obligations.CprocInputInPieces : Prop :=
  ∀ (m : Mode) (s t : State) (ys : List DinToken) (bs : List Answer) (a : Option Answer),
    s.CanAnswer bs a → exec (cprocOf m) s = .next t →
    exec (cprocOf m) (s.offerMore ys bs a) = .next (t.offerMore ys bs a).resume

/-- R127 in CPROC: on Err the whole blocks before it stay written, the partial block is discarded, one End is written
whatever its answer, and it is StreamIn. -/
def Obligations.CprocStreamIn : Prop :=
  ∀ (m : Mode) (s : State) (bs : List Byte) (rest : List DinToken) (a : Answer),
    s.keyv = true → s.din = brokenPacket bs rest → s.SinkOk (8 * (bs.length / 8)) →
    s.sinkAt (8 * (bs.length / 8)) = some a →
    ∃ t, exec (cprocOf m) s = .next t ∧
      t.dout = s.dout ++ okBytes (blockImages s.cfg.csbox s.key m bs (bs.length / 8)) ++ [endEvent a] ∧
      t.din = rest ∧ t.flt = s.flt ||| 0x04 ∧ t.lasterr = 2 ∧ t.phase = .idle ∧ cipherFrame s t

/-- R128 in CPROC, a byte refused: nothing of the block after it is written, the rest of the packet is discarded through
its End or Err (an Err there raises nothing more, R133), one End is written whatever its answer, and it is StreamOut. -/
def Obligations.CprocStreamOut : Prop :=
  ∀ (m : Mode) (s : State) (bs : List Byte) (rest : List DinToken) (j : Nat) (a : Answer),
    s.keyv = true →
    (s.din = packet bs rest ∧ j < 8 * blockCount bs.length ∨
      s.din = brokenPacket bs rest ∧ j < 8 * (bs.length / 8)) →
    s.SinkOk j → s.sinkAt j = some .err → s.sinkAt (j + 1) = some a →
    ∃ t, exec (cprocOf m) s = .next t ∧
      t.dout = s.dout ++ okBytes ((streamImage s.cfg.csbox s.key m bs).take j) ++
        [refusedByte ((streamImage s.cfg.csbox s.key m bs).getD j 0), endEvent a] ∧
      t.din = rest ∧ t.flt = s.flt ||| 0x08 ∧ t.lasterr = 3 ∧ t.phase = .idle ∧ cipherFrame s t

/-- R128 in CPROC, the final End refused: no second End, and it is StreamOut. -/
def Obligations.CprocFinalEndRefused : Prop :=
  ∀ (m : Mode) (s : State) (bs : List Byte) (rest : List DinToken),
    s.keyv = true → s.din = packet bs rest → s.SinkOk (8 * blockCount bs.length) →
    s.sinkAt (8 * blockCount bs.length) = some .err →
    ∃ t, exec (cprocOf m) s = .next t ∧
      t.dout = s.dout ++ okBytes (streamImage s.cfg.csbox s.key m bs) ++ [endEvent .err] ∧
      t.din = rest ∧ t.flt = s.flt ||| 0x08 ∧ t.lasterr = 3 ∧ t.phase = .idle ∧ cipherFrame s t

/-! ## The hash transforms -/

/-- R86: ADD is the byte loop from index 63 to index 0, and the sum of the numbers modulo 2^512. -/
def Obligations.AddIsByteLoop : Prop :=
  ∀ a b : Vec, vecAdd a b = addByteLoop a b ∧ vecNum (vecAdd a b) = (vecNum a + vecNum b) % 2 ^ 512

/-- R87, R88, R89: XOR and S act byte by byte, P gathers byte HTAU[i] into position i. -/
def Obligations.LayersActBytewise : Prop :=
  ∀ (c : Config) (a b : Vec) (i : Fin 64),
    vecByte (vecXor a b) i.val = vecByte a i.val ^^^ vecByte b i.val ∧
    vecByte (sLayer c a) i.val = c.hpi[(vecByte a i.val).toNat]'(vecByte a i.val).isLt ∧
    vecByte (pLayer c a) i.val = vecByte a c.htau[i].val

/-- R90: every byte of L is the one the loop over the row's bits gives. Which bit selects which row of HA is the spec's own
reading (R90's sentence "the mapping used here", D13; log entry 16). -/
def Obligations.LMatchesBitLoop : Prop :=
  ∀ (c : Config) (v : Vec) (q t : Fin 8), vecByte (lLayer c v) (8 * q.val + t.val) = lLoopByte c v q.val t.val

/-- R90: L is linear over GF(2). -/
def Obligations.LIsLinear : Prop :=
  ∀ (c : Config) (a b : Vec), lLayer c (vecXor a b) = vecXor (lLayer c a) (lLayer c b) ∧ lLayer c 0 = 0

/-- R91 (marked derived in the spec), R92, R94: LPS, KeySchedule and Compress as compositions. -/
def Obligations.TransformsCompose : Prop :=
  ∀ (c : Config) (v k nv h m : Vec) (r : Fin 12),
    lps c v = lLayer c (pLayer c (sLayer c v)) ∧
    keySchedule c k r.val = lps c (vecXor k c.hc[r]) ∧
    compress c nv h m = vecXor (vecXor (eTransform c (lps c (vecXor h nv)) m) h) m

/-- R93: E is twelve rounds; in round r the state is transformed, the key advanced with HC[r], and the NEW key added. -/
def Obligations.ETwelveRounds : Prop :=
  ∀ (c : Config) (k m : Vec), ∃ t kh : Nat → Vec,
    t 0 = vecXor k m ∧ kh 0 = k ∧
    (∀ r, r < 12 → kh (r + 1) = keySchedule c (kh r) r ∧ t (r + 1) = vecXor (lps c (t r)) (kh (r + 1))) ∧
    eTransform c k m = t 12

/-! ## HDIGEST -/

/-- R100 to R106: a packet that ends well and fits the buffer, a sink that answers ok: HDIGEST writes the digest of the
message, 32 or 64 bytes, and End; it consumes the packet, sets LASTERR to 0, stores byte j of the message at address j of
MSG and no other byte, and leaves the key, FLT, RSP, the rest of CMD, the parameters and the cipher unit unchanged. That MSG
and LEN keep after the command what it wrote is the model's deduction (log entry 19; U15 allows any value). -/
def Obligations.HdigestCompletes : Prop :=
  ∀ (s : State) (bs : List Byte) (rest : List DinToken),
    Memory.wf s.msg → s.din = packet bs rest → bs.length ≤ s.cfg.msgMax → s.SinkOk (digestLength s.hsize + 1) →
    ∃ t, exec .hdigest s = .next t ∧
      t.dout = s.dout ++ okBytes (messageDigest s.cfg s.hsize bs) ++ [endEvent .ok] ∧
      (messageDigest s.cfg s.hsize bs).length = (match s.hsize with | .h256 => 32 | .h512 => 64) ∧
      t.din = rest ∧ t.sink = s.sink.drop (digestLength s.hsize + 1) ∧ t.sinkAfter = s.sinkAfter ∧
      t.lasterr = 0 ∧ t.flt = s.flt ∧ t.phase = .idle ∧ t.len = bs.length ∧
      (∀ a, memByte t.msg a = if a < bs.length then bs.getD a 0 else memByte s.msg a) ∧ hashFrame s t

/-- R41(d) (marked derived in the spec), R46: while the packet has not ended HDIGEST has written nothing and waits with the
message so far in MSG (log entry 12). -/
def Obligations.HdigestReadsBeforeWriting : Prop :=
  ∀ (s : State) (bs : List Byte),
    Memory.wf s.msg → s.din = byteTokens bs → bs.length ≤ s.cfg.msgMax →
    ∃ t, exec .hdigest s = .next t ∧ t.phase = .copy ∧ t.din = [] ∧ t.dout = s.dout ∧ t.len = bs.length ∧
      (∀ a, memByte t.msg a = if a < bs.length then bs.getD a 0 else memByte s.msg a) ∧
      t.lasterr = s.lasterr ∧ t.flt = s.flt ∧ t.hash = s.hash ∧ hashFrame s t

/-- R31, R46: wherever an HDIGEST waits (the copy loop, a digest byte, the final End, the discarding of a packet, the End of
a release), it goes on, with the tokens and the answers offered next, to the state it reaches when all is offered at once
(log entry 12). An HDIGEST that has ended leaves the later offers as they are. -/
def Obligations.HdigestInputInPieces : Prop :=
  ∀ (s t : State) (ys : List DinToken) (bs : List Answer) (a : Option Answer),
    s.CanAnswer bs a → exec .hdigest s = .next t →
    exec .hdigest (s.offerMore ys bs a) = .next (t.offerMore ys bs a).resume

/-- R127 in HDIGEST: on Err nothing but one End is written, whatever its answer, and it is StreamIn. -/
def Obligations.HdigestStreamIn : Prop :=
  ∀ (s : State) (bs : List Byte) (rest : List DinToken) (a : Answer),
    s.din = brokenPacket bs rest → bs.length ≤ s.cfg.msgMax → s.sinkAt 0 = some a →
    ∃ t, exec .hdigest s = .next t ∧ t.dout = s.dout ++ [endEvent a] ∧ t.din = rest ∧
      t.flt = s.flt ||| 0x04 ∧ t.lasterr = 2 ∧ t.phase = .idle ∧ hashFrame s t

/-- R130: a byte that arrives while LEN = MSG_MAX: the packet is discarded through its End or Err, no digest byte is
written, one End is, whatever its answer, and it is MsgOverflow. That LEN holds MSG_MAX after the command is the model's
deduction (log entry 19; U15 allows any value). -/
def Obligations.HdigestMsgOverflow : Prop :=
  ∀ (s : State) (bs : List Byte) (rest : List DinToken) (a : Answer),
    (s.din = packet bs rest ∨ s.din = brokenPacket bs rest) → s.cfg.msgMax < bs.length → s.sinkAt 0 = some a →
    ∃ t, exec .hdigest s = .next t ∧ t.dout = s.dout ++ [endEvent a] ∧ t.din = rest ∧
      t.flt = s.flt ||| 0x40 ∧ t.lasterr = 6 ∧ t.phase = .idle ∧ t.len = s.cfg.msgMax ∧ hashFrame s t

/-- R128 in HDIGEST: a digest byte refused ends the output with one End, whatever its answer; the final End refused is
followed by nothing; both are StreamOut. -/
def Obligations.HdigestStreamOut : Prop :=
  ∀ (s : State) (bs : List Byte) (rest : List DinToken),
    Memory.wf s.msg → s.din = packet bs rest → bs.length ≤ s.cfg.msgMax →
    (∀ j a, j < digestLength s.hsize → s.SinkOk j → s.sinkAt j = some .err → s.sinkAt (j + 1) = some a →
      ∃ t, exec .hdigest s = .next t ∧
        t.dout = s.dout ++ okBytes ((messageDigest s.cfg s.hsize bs).take j) ++
          [refusedByte ((messageDigest s.cfg s.hsize bs).getD j 0), endEvent a] ∧
        t.din = rest ∧ t.flt = s.flt ||| 0x08 ∧ t.lasterr = 3 ∧ t.phase = .idle ∧ hashFrame s t) ∧
    (s.SinkOk (digestLength s.hsize) → s.sinkAt (digestLength s.hsize) = some .err →
      ∃ t, exec .hdigest s = .next t ∧
        t.dout = s.dout ++ okBytes (messageDigest s.cfg s.hsize bs) ++ [endEvent .err] ∧
        t.din = rest ∧ t.flt = s.flt ||| 0x08 ∧ t.lasterr = 3 ∧ t.phase = .idle ∧ hashFrame s t)

/-- R46 at DOUT: while the sink does not take the next token, CPROC and HDIGEST have written what comes before it and
nothing else, have recorded neither fault nor completion, and wait at that token: a byte of a block, with DIN read to the
end of that block and no further (R41(c)); a digest byte; the final End; the End of a release. That the wait is a next
state is the model's (log entry 12), and `CprocInputInPieces` and `HdigestInputInPieces` say how it goes on. -/
def Obligations.StreamsWaitForSink : Prop :=
  (∀ (m : Mode) (s : State) (bs : List Byte) (ts : List DinToken) (j : Nat), s.keyv = true → s.SinkOk j →
    (s.sinkAt j = none →
      (s.din = byteTokens bs ++ ts → j < 8 * (bs.length / 8) →
        ∃ t, exec (cprocOf m) s = .next t ∧ cipherFrame s t ∧
          s.WaitsAfter (.write m (j % 8)) (okBytes ((blockImages s.cfg.csbox s.key m bs (bs.length / 8)).take j))
            (byteTokens (bs.drop (8 * (j / 8 + 1))) ++ ts) t) ∧
      (s.din = packet bs ts → 8 * (bs.length / 8) ≤ j → j ≤ 8 * blockCount bs.length →
        ∃ t, exec (cprocOf m) s = .next t ∧ cipherFrame s t ∧
          s.WaitsAfter (if j < 8 * blockCount bs.length then .write m (j % 8) else .lastEnd .cipher)
            (okBytes ((streamImage s.cfg.csbox s.key m bs).take j)) ts t) ∧
      (s.din = brokenPacket bs ts → j = 8 * (bs.length / 8) →
        ∃ t, exec (cprocOf m) s = .next t ∧ cipherFrame s t ∧
          s.WaitsAfter (.release .cipher .streamIn)
            (okBytes (blockImages s.cfg.csbox s.key m bs (bs.length / 8))) ts t)) ∧
    (s.sinkAt j = some .err → s.sinkAt (j + 1) = none →
      (s.din = packet bs ts ∧ j < 8 * blockCount bs.length ∨
        s.din = brokenPacket bs ts ∧ j < 8 * (bs.length / 8)) →
      ∃ t, exec (cprocOf m) s = .next t ∧ cipherFrame s t ∧
        s.WaitsAfter (.release .cipher .streamOut)
          (okBytes ((streamImage s.cfg.csbox s.key m bs).take j) ++
            [refusedByte ((streamImage s.cfg.csbox s.key m bs).getD j 0)]) ts t)) ∧
  ∀ (s : State) (bs : List Byte) (ts : List DinToken), Memory.wf s.msg →
    (bs.length ≤ s.cfg.msgMax → s.din = packet bs ts → ∀ j, s.SinkOk j →
      (s.sinkAt j = none → j ≤ digestLength s.hsize →
        ∃ t, exec .hdigest s = .next t ∧ hashFrame s t ∧
          s.WaitsAfter (if j < digestLength s.hsize then .digest j else .lastEnd .hash)
            (okBytes ((messageDigest s.cfg s.hsize bs).take j)) ts t) ∧
      (s.sinkAt j = some .err → s.sinkAt (j + 1) = none → j < digestLength s.hsize →
        ∃ t, exec .hdigest s = .next t ∧ hashFrame s t ∧
          s.WaitsAfter (.release .hash .streamOut)
            (okBytes ((messageDigest s.cfg s.hsize bs).take j) ++
              [refusedByte ((messageDigest s.cfg s.hsize bs).getD j 0)]) ts t)) ∧
    (s.sinkAt 0 = none →
      (bs.length ≤ s.cfg.msgMax → s.din = brokenPacket bs ts →
        ∃ t, exec .hdigest s = .next t ∧ hashFrame s t ∧ s.WaitsAfter (.release .hash .streamIn) [] ts t) ∧
      (s.cfg.msgMax < bs.length → s.din = packet bs ts ∨ s.din = brokenPacket bs ts →
        ∃ t, exec .hdigest s = .next t ∧ hashFrame s t ∧ s.WaitsAfter (.release .hash .msgOverflow) [] ts t))

/-- R104's last sentence, marked derived in the spec: after step 4, N is the message length in bits and
SIGMA the sum modulo 2^512 of all compressed blocks. -/
def Obligations.LengthAndChecksum : Prop :=
  ∀ (c : Config) (hs : HSize) (msg : Memory) (len : Nat) (r : HashRegs),
    ((absorbChunks c msg (len / 64) len (r.init hs)).pad c msg (len % 64)).n.toNat = 8 * len % 2 ^ 512 ∧
    ((absorbChunks c msg (len / 64) len (r.init hs)).pad c msg (len % 64)).sigma.toNat =
      (((List.range (len / 64)).map fun k => (vecOfBytes (memRead msg (len - 64 * (k + 1)) 64)).toNat).sum +
        (paddedBlock msg (len % 64)).toNat) % 2 ^ 512

/-- R33: a byte stored is read back at its address, and every other address reads as before. -/
def Obligations.MessageBufferReadAfterWrite : Prop :=
  ∀ (m : Memory) (a x : Nat) (b : Byte), Memory.wf m →
    memByte (memPut m a b) x = if x = a then b else memByte m x

/-! ## The whole machine -/

/-- R25, R17, R18, R23: the invariant holds right after reset, for either strap and any parameters. The empty buffer and
LEN = 0 are the model's choice of the unspecified values (log entries 2 and 4). -/
def Obligations.InvariantAtReset : Prop := ∀ (strap : Bool) (c : Config), (State.resetWith strap c).Inv

/-- The invariant is kept by every step: FLT's hardwired bits (R17), LASTERR a recorded code or 0 (R18), the message buffer
canonical and inside its capacity (R23, R33), a valid key wherever a command in progress uses it (R129), counters in
range. -/
def Obligations.StepKeepsInvariant : Prop := ∀ s t : State, s.Inv → step s = .next t → t.Inv

/-- R32: no step writes a table or the capacity. -/
def Obligations.ParametersNeverChange : Prop := ∀ s t : State, step s = .next t → t.cfg = s.cfg

/-- R12, R131: the key registers and KEYV are written by SETKEY and reset only. -/
def Obligations.KeyWrittenOnlyBySetkey : Prop :=
  (∀ (i : Instr) (s t : State), (∀ k, i ≠ .setkey k) → exec i s = .next t → sameKey s t) ∧
  ∀ s t : State, s.rst = false → step s = .next t → (∀ k u, s.fetch ≠ .run (.setkey k) u) → sameKey s t

/-- R20: HSIZE is latched from the strap in reset and never changes otherwise. That every step in reset samples the strap,
so that the last one before release decides, is the model's (log entry 13). -/
def Obligations.SizeLatchedInReset : Prop :=
  ∀ s t : State, step s = .next t →
    t.hsize = if s.rst then (if s.cfgHsize then .h256 else .h512) else s.hsize

/-- R30, R31, R41(a), R41(b), R44: CMD and DIN are taken from the front, DOUT and RSP are only added to at the end. For CMD
the invariant of the machine is needed (`StepKeepsInvariant`): a waiting SETKEY holds fewer than eight payload words. -/
def Obligations.PortsKeepOrder : Prop :=
  ∀ s t : State, step s = .next t →
    (s.Inv → ∃ taken, s.cmd = taken ++ t.cmd) ∧ (∃ taken, s.din = taken ++ t.din) ∧
    (∃ written, t.dout = s.dout ++ written) ∧ ∃ written, t.rsp = s.rsp ++ written

/-- R18: a command other than STAT that has ended leaves LASTERR 0, or the code of the fault it recorded, whether it ends in
the step that starts it or after waits, an illegal command among them; until it ends it changes neither FLT nor LASTERR;
STAT changes neither. -/
def Obligations.LasterrTellsHowItEnded : Prop :=
  (∀ (i : Instr) (s t : State), exec i s = .next t →
    (i = .stat ∨ t.phase ≠ .idle → sameResult s t) ∧ (i ≠ .stat → t.phase = .idle → RecordsEnd s t)) ∧
  ∀ s t : State, s.rst = false → step s = .next t →
    (t.phase ≠ .idle → sameResult s t) ∧
    (s.phase = .stat ∨ (s.phase = .idle ∧ ∃ rest, decode s.cmd = .instr .stat rest) → sameResult s t) ∧
    (s.phase ≠ .idle → s.phase ≠ .stat → t.phase = .idle → RecordsEnd s t) ∧
    (s.phase = .idle → decode s.cmd ≠ .empty → (∀ rest, decode s.cmd ≠ .instr .stat rest) → t.phase = .idle →
      RecordsEnd s t)

/-- R150, R151: a step with rst asserted abandons the command in progress, gives KEYV, FLT and LASTERR their reset values,
samples the strap, and moves no item on any port. That the step does so while `rst` is asserted is the model's
(log entry 13). -/
def Obligations.ResetMoveClearsEngine : Prop :=
  ∀ s : State, s.rst = true →
    ∃ t, step s = .next t ∧ t.keyv = false ∧ t.flt = 0 ∧ t.lasterr = 0 ∧
      t.hsize = (if s.cfgHsize then .h256 else .h512) ∧ t.phase = .idle ∧ t.faultLine = false ∧
      t.cmd = s.cmd ∧ t.din = s.din ∧ t.dout = s.dout ∧ t.rsp = s.rsp ∧ t.cfg = s.cfg ∧ t.rst = true

/-- R25: the values the spec gives for reset. The working registers and KEY, for which it gives none, are not named here. -/
def Obligations.ResetValues : Prop :=
  ∀ (strap : Bool) (c : Config),
    (State.resetWith strap c).keyv = false ∧ (State.resetWith strap c).flt = 0 ∧
    (State.resetWith strap c).lasterr = 0 ∧
    (State.resetWith strap c).hsize = (if strap then .h256 else .h512) ∧
    (State.resetWith strap c).faultLine = false ∧ (State.resetWith strap c).phase = .idle

/-- R11, R26: no command can read what an earlier one left in the working state. Whatever the working registers, MSG and
LEN hold when a command starts, it does the same on every port and to every architectural register. -/
def Obligations.WorkingStateUnobservable : Prop :=
  ∀ (i : Instr) (s : State) (cr : CipherRegs) (hr : HashRegs) (msg : Memory) (len : Nat),
    Memory.wf s.msg → Memory.wf msg →
    ∃ t u, exec i s = .next t ∧ exec i { s with cipher := cr, hash := hr, msg := msg, len := len } = .next u ∧
      u.key = t.key ∧ u.keyv = t.keyv ∧ u.flt = t.flt ∧ u.lasterr = t.lasterr ∧ u.hsize = t.hsize ∧
      u.phase = t.phase ∧ u.cmd = t.cmd ∧ u.din = t.din ∧ u.dout = t.dout ∧ u.rsp = t.rsp
end

