-- ==== Sys2Proof/Laws/State.lean ====
section
/-! SUPPORT. What each named update of State does to each field: one lemma per field, so that no proof unfolds a record. -/

namespace Sys2Proof.Machine

@[simp] theorem State.raise_key (f : Fault) (s : State) : (s.raise f).key = s.key := rfl
@[simp] theorem State.raise_keyv (f : Fault) (s : State) : (s.raise f).keyv = s.keyv := rfl
@[simp] theorem State.raise_flt (f : Fault) (s : State) : (s.raise f).flt = s.flt ||| f.bit := rfl
@[simp] theorem State.raise_lasterr (f : Fault) (s : State) : (s.raise f).lasterr = f.code := rfl
@[simp] theorem State.raise_hsize (f : Fault) (s : State) : (s.raise f).hsize = s.hsize := rfl
@[simp] theorem State.raise_cipher (f : Fault) (s : State) : (s.raise f).cipher = s.cipher := rfl
@[simp] theorem State.raise_hash (f : Fault) (s : State) : (s.raise f).hash = s.hash := rfl
@[simp] theorem State.raise_msg (f : Fault) (s : State) : (s.raise f).msg = s.msg := rfl
@[simp] theorem State.raise_len (f : Fault) (s : State) : (s.raise f).len = s.len := rfl
@[simp] theorem State.raise_phase (f : Fault) (s : State) : (s.raise f).phase = .idle := rfl
@[simp] theorem State.raise_rst (f : Fault) (s : State) : (s.raise f).rst = s.rst := rfl
@[simp] theorem State.raise_cfgHsize (f : Fault) (s : State) : (s.raise f).cfgHsize = s.cfgHsize := rfl
@[simp] theorem State.raise_cmd (f : Fault) (s : State) : (s.raise f).cmd = s.cmd := rfl
@[simp] theorem State.raise_din (f : Fault) (s : State) : (s.raise f).din = s.din := rfl
@[simp] theorem State.raise_sink (f : Fault) (s : State) : (s.raise f).sink = s.sink := rfl
@[simp] theorem State.raise_sinkAfter (f : Fault) (s : State) : (s.raise f).sinkAfter = s.sinkAfter := rfl
@[simp] theorem State.raise_dout (f : Fault) (s : State) : (s.raise f).dout = s.dout := rfl
@[simp] theorem State.raise_rspRoom (f : Fault) (s : State) : (s.raise f).rspRoom = s.rspRoom := rfl
@[simp] theorem State.raise_rsp (f : Fault) (s : State) : (s.raise f).rsp = s.rsp := rfl
@[simp] theorem State.raise_draws (f : Fault) (s : State) : (s.raise f).draws = s.draws := rfl
@[simp] theorem State.raise_cfg (f : Fault) (s : State) : (s.raise f).cfg = s.cfg := rfl

@[simp] theorem State.complete_key (s : State) : (s.complete).key = s.key := rfl
@[simp] theorem State.complete_keyv (s : State) : (s.complete).keyv = s.keyv := rfl
@[simp] theorem State.complete_flt (s : State) : (s.complete).flt = s.flt := rfl
@[simp] theorem State.complete_lasterr (s : State) : (s.complete).lasterr = 0 := rfl
@[simp] theorem State.complete_hsize (s : State) : (s.complete).hsize = s.hsize := rfl
@[simp] theorem State.complete_cipher (s : State) : (s.complete).cipher = s.cipher := rfl
@[simp] theorem State.complete_hash (s : State) : (s.complete).hash = s.hash := rfl
@[simp] theorem State.complete_msg (s : State) : (s.complete).msg = s.msg := rfl
@[simp] theorem State.complete_len (s : State) : (s.complete).len = s.len := rfl
@[simp] theorem State.complete_phase (s : State) : (s.complete).phase = .idle := rfl
@[simp] theorem State.complete_rst (s : State) : (s.complete).rst = s.rst := rfl
@[simp] theorem State.complete_cfgHsize (s : State) : (s.complete).cfgHsize = s.cfgHsize := rfl
@[simp] theorem State.complete_cmd (s : State) : (s.complete).cmd = s.cmd := rfl
@[simp] theorem State.complete_din (s : State) : (s.complete).din = s.din := rfl
@[simp] theorem State.complete_sink (s : State) : (s.complete).sink = s.sink := rfl
@[simp] theorem State.complete_sinkAfter (s : State) : (s.complete).sinkAfter = s.sinkAfter := rfl
@[simp] theorem State.complete_dout (s : State) : (s.complete).dout = s.dout := rfl
@[simp] theorem State.complete_rspRoom (s : State) : (s.complete).rspRoom = s.rspRoom := rfl
@[simp] theorem State.complete_rsp (s : State) : (s.complete).rsp = s.rsp := rfl
@[simp] theorem State.complete_draws (s : State) : (s.complete).draws = s.draws := rfl
@[simp] theorem State.complete_cfg (s : State) : (s.complete).cfg = s.cfg := rfl

@[simp] theorem State.loadKey_key (k : KeyWords) (s : State) : (s.loadKey k).key = k := rfl
@[simp] theorem State.loadKey_keyv (k : KeyWords) (s : State) : (s.loadKey k).keyv = true := rfl
@[simp] theorem State.loadKey_flt (k : KeyWords) (s : State) : (s.loadKey k).flt = s.flt := rfl
@[simp] theorem State.loadKey_lasterr (k : KeyWords) (s : State) : (s.loadKey k).lasterr = s.lasterr := rfl
@[simp] theorem State.loadKey_hsize (k : KeyWords) (s : State) : (s.loadKey k).hsize = s.hsize := rfl
@[simp] theorem State.loadKey_cipher (k : KeyWords) (s : State) : (s.loadKey k).cipher = s.cipher := rfl
@[simp] theorem State.loadKey_hash (k : KeyWords) (s : State) : (s.loadKey k).hash = s.hash := rfl
@[simp] theorem State.loadKey_msg (k : KeyWords) (s : State) : (s.loadKey k).msg = s.msg := rfl
@[simp] theorem State.loadKey_len (k : KeyWords) (s : State) : (s.loadKey k).len = s.len := rfl
@[simp] theorem State.loadKey_phase (k : KeyWords) (s : State) : (s.loadKey k).phase = s.phase := rfl
@[simp] theorem State.loadKey_rst (k : KeyWords) (s : State) : (s.loadKey k).rst = s.rst := rfl
@[simp] theorem State.loadKey_cfgHsize (k : KeyWords) (s : State) : (s.loadKey k).cfgHsize = s.cfgHsize := rfl
@[simp] theorem State.loadKey_cmd (k : KeyWords) (s : State) : (s.loadKey k).cmd = s.cmd := rfl
@[simp] theorem State.loadKey_din (k : KeyWords) (s : State) : (s.loadKey k).din = s.din := rfl
@[simp] theorem State.loadKey_sink (k : KeyWords) (s : State) : (s.loadKey k).sink = s.sink := rfl
@[simp] theorem State.loadKey_sinkAfter (k : KeyWords) (s : State) : (s.loadKey k).sinkAfter = s.sinkAfter := rfl
@[simp] theorem State.loadKey_dout (k : KeyWords) (s : State) : (s.loadKey k).dout = s.dout := rfl
@[simp] theorem State.loadKey_rspRoom (k : KeyWords) (s : State) : (s.loadKey k).rspRoom = s.rspRoom := rfl
@[simp] theorem State.loadKey_rsp (k : KeyWords) (s : State) : (s.loadKey k).rsp = s.rsp := rfl
@[simp] theorem State.loadKey_draws (k : KeyWords) (s : State) : (s.loadKey k).draws = s.draws := rfl
@[simp] theorem State.loadKey_cfg (k : KeyWords) (s : State) : (s.loadKey k).cfg = s.cfg := rfl

@[simp] theorem State.startBlock_key (s : State) : (s.startBlock).key = s.key := rfl
@[simp] theorem State.startBlock_keyv (s : State) : (s.startBlock).keyv = s.keyv := rfl
@[simp] theorem State.startBlock_flt (s : State) : (s.startBlock).flt = s.flt := rfl
@[simp] theorem State.startBlock_lasterr (s : State) : (s.startBlock).lasterr = s.lasterr := rfl
@[simp] theorem State.startBlock_hsize (s : State) : (s.startBlock).hsize = s.hsize := rfl
@[simp] theorem State.startBlock_hash (s : State) : (s.startBlock).hash = s.hash := rfl
@[simp] theorem State.startBlock_msg (s : State) : (s.startBlock).msg = s.msg := rfl
@[simp] theorem State.startBlock_len (s : State) : (s.startBlock).len = s.len := rfl
@[simp] theorem State.startBlock_phase (s : State) : (s.startBlock).phase = s.phase := rfl
@[simp] theorem State.startBlock_rst (s : State) : (s.startBlock).rst = s.rst := rfl
@[simp] theorem State.startBlock_cfgHsize (s : State) : (s.startBlock).cfgHsize = s.cfgHsize := rfl
@[simp] theorem State.startBlock_cmd (s : State) : (s.startBlock).cmd = s.cmd := rfl
@[simp] theorem State.startBlock_din (s : State) : (s.startBlock).din = s.din := rfl
@[simp] theorem State.startBlock_sink (s : State) : (s.startBlock).sink = s.sink := rfl
@[simp] theorem State.startBlock_sinkAfter (s : State) : (s.startBlock).sinkAfter = s.sinkAfter := rfl
@[simp] theorem State.startBlock_dout (s : State) : (s.startBlock).dout = s.dout := rfl
@[simp] theorem State.startBlock_rspRoom (s : State) : (s.startBlock).rspRoom = s.rspRoom := rfl
@[simp] theorem State.startBlock_rsp (s : State) : (s.startBlock).rsp = s.rsp := rfl
@[simp] theorem State.startBlock_draws (s : State) : (s.startBlock).draws = s.draws := rfl
@[simp] theorem State.startBlock_cfg (s : State) : (s.startBlock).cfg = s.cfg := rfl

@[simp] theorem State.transform_key (m : Mode) (s : State) : (s.transform m).key = s.key := rfl
@[simp] theorem State.transform_keyv (m : Mode) (s : State) : (s.transform m).keyv = s.keyv := rfl
@[simp] theorem State.transform_flt (m : Mode) (s : State) : (s.transform m).flt = s.flt := rfl
@[simp] theorem State.transform_lasterr (m : Mode) (s : State) : (s.transform m).lasterr = s.lasterr := rfl
@[simp] theorem State.transform_hsize (m : Mode) (s : State) : (s.transform m).hsize = s.hsize := rfl
@[simp] theorem State.transform_cipher (m : Mode) (s : State) :
    (s.transform m).cipher = s.cipher.transform s.cfg.csbox s.key m := rfl
@[simp] theorem State.transform_hash (m : Mode) (s : State) : (s.transform m).hash = s.hash := rfl
@[simp] theorem State.transform_msg (m : Mode) (s : State) : (s.transform m).msg = s.msg := rfl
@[simp] theorem State.transform_len (m : Mode) (s : State) : (s.transform m).len = s.len := rfl
@[simp] theorem State.transform_phase (m : Mode) (s : State) : (s.transform m).phase = s.phase := rfl
@[simp] theorem State.transform_rst (m : Mode) (s : State) : (s.transform m).rst = s.rst := rfl
@[simp] theorem State.transform_cfgHsize (m : Mode) (s : State) : (s.transform m).cfgHsize = s.cfgHsize := rfl
@[simp] theorem State.transform_cmd (m : Mode) (s : State) : (s.transform m).cmd = s.cmd := rfl
@[simp] theorem State.transform_din (m : Mode) (s : State) : (s.transform m).din = s.din := rfl
@[simp] theorem State.transform_sink (m : Mode) (s : State) : (s.transform m).sink = s.sink := rfl
@[simp] theorem State.transform_sinkAfter (m : Mode) (s : State) : (s.transform m).sinkAfter = s.sinkAfter := rfl
@[simp] theorem State.transform_dout (m : Mode) (s : State) : (s.transform m).dout = s.dout := rfl
@[simp] theorem State.transform_rspRoom (m : Mode) (s : State) : (s.transform m).rspRoom = s.rspRoom := rfl
@[simp] theorem State.transform_rsp (m : Mode) (s : State) : (s.transform m).rsp = s.rsp := rfl
@[simp] theorem State.transform_draws (m : Mode) (s : State) : (s.transform m).draws = s.draws := rfl
@[simp] theorem State.transform_cfg (m : Mode) (s : State) : (s.transform m).cfg = s.cfg := rfl

@[simp] theorem State.computeDigest_key (s : State) : (s.computeDigest).key = s.key := rfl
@[simp] theorem State.computeDigest_keyv (s : State) : (s.computeDigest).keyv = s.keyv := rfl
@[simp] theorem State.computeDigest_flt (s : State) : (s.computeDigest).flt = s.flt := rfl
@[simp] theorem State.computeDigest_lasterr (s : State) : (s.computeDigest).lasterr = s.lasterr := rfl
@[simp] theorem State.computeDigest_hsize (s : State) : (s.computeDigest).hsize = s.hsize := rfl
@[simp] theorem State.computeDigest_cipher (s : State) : (s.computeDigest).cipher = s.cipher := rfl
@[simp] theorem State.computeDigest_hash (s : State) :
    (s.computeDigest).hash = digestRegs s.cfg s.hsize s.msg s.len s.hash := rfl
@[simp] theorem State.computeDigest_msg (s : State) : (s.computeDigest).msg = s.msg := rfl
@[simp] theorem State.computeDigest_len (s : State) : (s.computeDigest).len = s.len := rfl
@[simp] theorem State.computeDigest_phase (s : State) : (s.computeDigest).phase = s.phase := rfl
@[simp] theorem State.computeDigest_rst (s : State) : (s.computeDigest).rst = s.rst := rfl
@[simp] theorem State.computeDigest_cfgHsize (s : State) : (s.computeDigest).cfgHsize = s.cfgHsize := rfl
@[simp] theorem State.computeDigest_cmd (s : State) : (s.computeDigest).cmd = s.cmd := rfl
@[simp] theorem State.computeDigest_din (s : State) : (s.computeDigest).din = s.din := rfl
@[simp] theorem State.computeDigest_sink (s : State) : (s.computeDigest).sink = s.sink := rfl
@[simp] theorem State.computeDigest_sinkAfter (s : State) : (s.computeDigest).sinkAfter = s.sinkAfter := rfl
@[simp] theorem State.computeDigest_dout (s : State) : (s.computeDigest).dout = s.dout := rfl
@[simp] theorem State.computeDigest_rspRoom (s : State) : (s.computeDigest).rspRoom = s.rspRoom := rfl
@[simp] theorem State.computeDigest_rsp (s : State) : (s.computeDigest).rsp = s.rsp := rfl
@[simp] theorem State.computeDigest_draws (s : State) : (s.computeDigest).draws = s.draws := rfl
@[simp] theorem State.computeDigest_cfg (s : State) : (s.computeDigest).cfg = s.cfg := rfl

@[simp] theorem State.wrote_key (es : List DoutEvent) (s : State) : (s.wrote es).key = s.key := rfl
@[simp] theorem State.wrote_keyv (es : List DoutEvent) (s : State) : (s.wrote es).keyv = s.keyv := rfl
@[simp] theorem State.wrote_flt (es : List DoutEvent) (s : State) : (s.wrote es).flt = s.flt := rfl
@[simp] theorem State.wrote_lasterr (es : List DoutEvent) (s : State) : (s.wrote es).lasterr = s.lasterr := rfl
@[simp] theorem State.wrote_hsize (es : List DoutEvent) (s : State) : (s.wrote es).hsize = s.hsize := rfl
@[simp] theorem State.wrote_cipher (es : List DoutEvent) (s : State) : (s.wrote es).cipher = s.cipher := rfl
@[simp] theorem State.wrote_hash (es : List DoutEvent) (s : State) : (s.wrote es).hash = s.hash := rfl
@[simp] theorem State.wrote_msg (es : List DoutEvent) (s : State) : (s.wrote es).msg = s.msg := rfl
@[simp] theorem State.wrote_len (es : List DoutEvent) (s : State) : (s.wrote es).len = s.len := rfl
@[simp] theorem State.wrote_phase (es : List DoutEvent) (s : State) : (s.wrote es).phase = s.phase := rfl
@[simp] theorem State.wrote_rst (es : List DoutEvent) (s : State) : (s.wrote es).rst = s.rst := rfl
@[simp] theorem State.wrote_cfgHsize (es : List DoutEvent) (s : State) : (s.wrote es).cfgHsize = s.cfgHsize := rfl
@[simp] theorem State.wrote_cmd (es : List DoutEvent) (s : State) : (s.wrote es).cmd = s.cmd := rfl
@[simp] theorem State.wrote_din (es : List DoutEvent) (s : State) : (s.wrote es).din = s.din := rfl
@[simp] theorem State.wrote_sink (es : List DoutEvent) (s : State) : (s.wrote es).sink = s.sink.drop es.length := rfl
@[simp] theorem State.wrote_sinkAfter (es : List DoutEvent) (s : State) : (s.wrote es).sinkAfter = s.sinkAfter := rfl
@[simp] theorem State.wrote_dout (es : List DoutEvent) (s : State) : (s.wrote es).dout = s.dout ++ es := rfl
@[simp] theorem State.wrote_rspRoom (es : List DoutEvent) (s : State) : (s.wrote es).rspRoom = s.rspRoom := rfl
@[simp] theorem State.wrote_rsp (es : List DoutEvent) (s : State) : (s.wrote es).rsp = s.rsp := rfl
@[simp] theorem State.wrote_draws (es : List DoutEvent) (s : State) : (s.wrote es).draws = s.draws := rfl
@[simp] theorem State.wrote_cfg (es : List DoutEvent) (s : State) : (s.wrote es).cfg = s.cfg := rfl

@[simp] theorem State.offerMore_key (ys : List DinToken) (bs : List Answer) (a : Option Answer) (s : State) :
    (s.offerMore ys bs a).key = s.key := rfl
@[simp] theorem State.offerMore_keyv (ys : List DinToken) (bs : List Answer) (a : Option Answer) (s : State) :
    (s.offerMore ys bs a).keyv = s.keyv := rfl
@[simp] theorem State.offerMore_flt (ys : List DinToken) (bs : List Answer) (a : Option Answer) (s : State) :
    (s.offerMore ys bs a).flt = s.flt := rfl
@[simp] theorem State.offerMore_lasterr (ys : List DinToken) (bs : List Answer) (a : Option Answer) (s : State) :
    (s.offerMore ys bs a).lasterr = s.lasterr := rfl
@[simp] theorem State.offerMore_hsize (ys : List DinToken) (bs : List Answer) (a : Option Answer) (s : State) :
    (s.offerMore ys bs a).hsize = s.hsize := rfl
@[simp] theorem State.offerMore_cipher (ys : List DinToken) (bs : List Answer) (a : Option Answer) (s : State) :
    (s.offerMore ys bs a).cipher = s.cipher := rfl
@[simp] theorem State.offerMore_hash (ys : List DinToken) (bs : List Answer) (a : Option Answer) (s : State) :
    (s.offerMore ys bs a).hash = s.hash := rfl
@[simp] theorem State.offerMore_msg (ys : List DinToken) (bs : List Answer) (a : Option Answer) (s : State) :
    (s.offerMore ys bs a).msg = s.msg := rfl
@[simp] theorem State.offerMore_len (ys : List DinToken) (bs : List Answer) (a : Option Answer) (s : State) :
    (s.offerMore ys bs a).len = s.len := rfl
@[simp] theorem State.offerMore_phase (ys : List DinToken) (bs : List Answer) (a : Option Answer) (s : State) :
    (s.offerMore ys bs a).phase = s.phase := rfl
@[simp] theorem State.offerMore_rst (ys : List DinToken) (bs : List Answer) (a : Option Answer) (s : State) :
    (s.offerMore ys bs a).rst = s.rst := rfl
@[simp] theorem State.offerMore_cfgHsize (ys : List DinToken) (bs : List Answer) (a : Option Answer) (s : State) :
    (s.offerMore ys bs a).cfgHsize = s.cfgHsize := rfl
@[simp] theorem State.offerMore_cmd (ys : List DinToken) (bs : List Answer) (a : Option Answer) (s : State) :
    (s.offerMore ys bs a).cmd = s.cmd := rfl
@[simp] theorem State.offerMore_din (ys : List DinToken) (bs : List Answer) (a : Option Answer) (s : State) :
    (s.offerMore ys bs a).din = s.din ++ ys := rfl
@[simp] theorem State.offerMore_sink (ys : List DinToken) (bs : List Answer) (a : Option Answer) (s : State) :
    (s.offerMore ys bs a).sink = s.sink ++ bs := rfl
@[simp] theorem State.offerMore_sinkAfter (ys : List DinToken) (bs : List Answer) (a : Option Answer) (s : State) :
    (s.offerMore ys bs a).sinkAfter = a := rfl
@[simp] theorem State.offerMore_dout (ys : List DinToken) (bs : List Answer) (a : Option Answer) (s : State) :
    (s.offerMore ys bs a).dout = s.dout := rfl
@[simp] theorem State.offerMore_rspRoom (ys : List DinToken) (bs : List Answer) (a : Option Answer) (s : State) :
    (s.offerMore ys bs a).rspRoom = s.rspRoom := rfl
@[simp] theorem State.offerMore_rsp (ys : List DinToken) (bs : List Answer) (a : Option Answer) (s : State) :
    (s.offerMore ys bs a).rsp = s.rsp := rfl
@[simp] theorem State.offerMore_draws (ys : List DinToken) (bs : List Answer) (a : Option Answer) (s : State) :
    (s.offerMore ys bs a).draws = s.draws := rfl
@[simp] theorem State.offerMore_cfg (ys : List DinToken) (bs : List Answer) (a : Option Answer) (s : State) :
    (s.offerMore ys bs a).cfg = s.cfg := rfl

@[simp] theorem State.waitAt_key (p : Phase) (s : State) : (s.waitAt p).key = s.key := rfl
@[simp] theorem State.waitAt_keyv (p : Phase) (s : State) : (s.waitAt p).keyv = s.keyv := rfl
@[simp] theorem State.waitAt_flt (p : Phase) (s : State) : (s.waitAt p).flt = s.flt := rfl
@[simp] theorem State.waitAt_lasterr (p : Phase) (s : State) : (s.waitAt p).lasterr = s.lasterr := rfl
@[simp] theorem State.waitAt_hsize (p : Phase) (s : State) : (s.waitAt p).hsize = s.hsize := rfl
@[simp] theorem State.waitAt_cipher (p : Phase) (s : State) : (s.waitAt p).cipher = s.cipher := rfl
@[simp] theorem State.waitAt_hash (p : Phase) (s : State) : (s.waitAt p).hash = s.hash := rfl
@[simp] theorem State.waitAt_msg (p : Phase) (s : State) : (s.waitAt p).msg = s.msg := rfl
@[simp] theorem State.waitAt_len (p : Phase) (s : State) : (s.waitAt p).len = s.len := rfl
@[simp] theorem State.waitAt_phase (p : Phase) (s : State) : (s.waitAt p).phase = p := rfl
@[simp] theorem State.waitAt_rst (p : Phase) (s : State) : (s.waitAt p).rst = s.rst := rfl
@[simp] theorem State.waitAt_cfgHsize (p : Phase) (s : State) : (s.waitAt p).cfgHsize = s.cfgHsize := rfl
@[simp] theorem State.waitAt_cmd (p : Phase) (s : State) : (s.waitAt p).cmd = s.cmd := rfl
@[simp] theorem State.waitAt_din (p : Phase) (s : State) : (s.waitAt p).din = s.din := rfl
@[simp] theorem State.waitAt_sink (p : Phase) (s : State) : (s.waitAt p).sink = s.sink := rfl
@[simp] theorem State.waitAt_sinkAfter (p : Phase) (s : State) : (s.waitAt p).sinkAfter = s.sinkAfter := rfl
@[simp] theorem State.waitAt_dout (p : Phase) (s : State) : (s.waitAt p).dout = s.dout := rfl
@[simp] theorem State.waitAt_rspRoom (p : Phase) (s : State) : (s.waitAt p).rspRoom = s.rspRoom := rfl
@[simp] theorem State.waitAt_rsp (p : Phase) (s : State) : (s.waitAt p).rsp = s.rsp := rfl
@[simp] theorem State.waitAt_draws (p : Phase) (s : State) : (s.waitAt p).draws = s.draws := rfl
@[simp] theorem State.waitAt_cfg (p : Phase) (s : State) : (s.waitAt p).cfg = s.cfg := rfl

@[simp] theorem State.setDin_key (ts : List DinToken) (s : State) : (s.setDin ts).key = s.key := rfl
@[simp] theorem State.setDin_keyv (ts : List DinToken) (s : State) : (s.setDin ts).keyv = s.keyv := rfl
@[simp] theorem State.setDin_flt (ts : List DinToken) (s : State) : (s.setDin ts).flt = s.flt := rfl
@[simp] theorem State.setDin_lasterr (ts : List DinToken) (s : State) : (s.setDin ts).lasterr = s.lasterr := rfl
@[simp] theorem State.setDin_hsize (ts : List DinToken) (s : State) : (s.setDin ts).hsize = s.hsize := rfl
@[simp] theorem State.setDin_cipher (ts : List DinToken) (s : State) : (s.setDin ts).cipher = s.cipher := rfl
@[simp] theorem State.setDin_hash (ts : List DinToken) (s : State) : (s.setDin ts).hash = s.hash := rfl
@[simp] theorem State.setDin_msg (ts : List DinToken) (s : State) : (s.setDin ts).msg = s.msg := rfl
@[simp] theorem State.setDin_len (ts : List DinToken) (s : State) : (s.setDin ts).len = s.len := rfl
@[simp] theorem State.setDin_phase (ts : List DinToken) (s : State) : (s.setDin ts).phase = s.phase := rfl
@[simp] theorem State.setDin_rst (ts : List DinToken) (s : State) : (s.setDin ts).rst = s.rst := rfl
@[simp] theorem State.setDin_cfgHsize (ts : List DinToken) (s : State) : (s.setDin ts).cfgHsize = s.cfgHsize := rfl
@[simp] theorem State.setDin_cmd (ts : List DinToken) (s : State) : (s.setDin ts).cmd = s.cmd := rfl
@[simp] theorem State.setDin_din (ts : List DinToken) (s : State) : (s.setDin ts).din = ts := rfl
@[simp] theorem State.setDin_sink (ts : List DinToken) (s : State) : (s.setDin ts).sink = s.sink := rfl
@[simp] theorem State.setDin_sinkAfter (ts : List DinToken) (s : State) : (s.setDin ts).sinkAfter = s.sinkAfter := rfl
@[simp] theorem State.setDin_dout (ts : List DinToken) (s : State) : (s.setDin ts).dout = s.dout := rfl
@[simp] theorem State.setDin_rspRoom (ts : List DinToken) (s : State) : (s.setDin ts).rspRoom = s.rspRoom := rfl
@[simp] theorem State.setDin_rsp (ts : List DinToken) (s : State) : (s.setDin ts).rsp = s.rsp := rfl
@[simp] theorem State.setDin_draws (ts : List DinToken) (s : State) : (s.setDin ts).draws = s.draws := rfl
@[simp] theorem State.setDin_cfg (ts : List DinToken) (s : State) : (s.setDin ts).cfg = s.cfg := rfl

@[simp] theorem State.setCmd_key (ws : List Word) (s : State) : (s.setCmd ws).key = s.key := rfl
@[simp] theorem State.setCmd_keyv (ws : List Word) (s : State) : (s.setCmd ws).keyv = s.keyv := rfl
@[simp] theorem State.setCmd_flt (ws : List Word) (s : State) : (s.setCmd ws).flt = s.flt := rfl
@[simp] theorem State.setCmd_lasterr (ws : List Word) (s : State) : (s.setCmd ws).lasterr = s.lasterr := rfl
@[simp] theorem State.setCmd_hsize (ws : List Word) (s : State) : (s.setCmd ws).hsize = s.hsize := rfl
@[simp] theorem State.setCmd_cipher (ws : List Word) (s : State) : (s.setCmd ws).cipher = s.cipher := rfl
@[simp] theorem State.setCmd_hash (ws : List Word) (s : State) : (s.setCmd ws).hash = s.hash := rfl
@[simp] theorem State.setCmd_msg (ws : List Word) (s : State) : (s.setCmd ws).msg = s.msg := rfl
@[simp] theorem State.setCmd_len (ws : List Word) (s : State) : (s.setCmd ws).len = s.len := rfl
@[simp] theorem State.setCmd_phase (ws : List Word) (s : State) : (s.setCmd ws).phase = s.phase := rfl
@[simp] theorem State.setCmd_rst (ws : List Word) (s : State) : (s.setCmd ws).rst = s.rst := rfl
@[simp] theorem State.setCmd_cfgHsize (ws : List Word) (s : State) : (s.setCmd ws).cfgHsize = s.cfgHsize := rfl
@[simp] theorem State.setCmd_cmd (ws : List Word) (s : State) : (s.setCmd ws).cmd = ws := rfl
@[simp] theorem State.setCmd_din (ws : List Word) (s : State) : (s.setCmd ws).din = s.din := rfl
@[simp] theorem State.setCmd_sink (ws : List Word) (s : State) : (s.setCmd ws).sink = s.sink := rfl
@[simp] theorem State.setCmd_sinkAfter (ws : List Word) (s : State) : (s.setCmd ws).sinkAfter = s.sinkAfter := rfl
@[simp] theorem State.setCmd_dout (ws : List Word) (s : State) : (s.setCmd ws).dout = s.dout := rfl
@[simp] theorem State.setCmd_rspRoom (ws : List Word) (s : State) : (s.setCmd ws).rspRoom = s.rspRoom := rfl
@[simp] theorem State.setCmd_rsp (ws : List Word) (s : State) : (s.setCmd ws).rsp = s.rsp := rfl
@[simp] theorem State.setCmd_draws (ws : List Word) (s : State) : (s.setCmd ws).draws = s.draws := rfl
@[simp] theorem State.setCmd_cfg (ws : List Word) (s : State) : (s.setCmd ws).cfg = s.cfg := rfl

@[simp] theorem State.takeByte_key (b : Byte) (s : State) : (s.takeByte b).key = s.key := rfl
@[simp] theorem State.takeByte_keyv (b : Byte) (s : State) : (s.takeByte b).keyv = s.keyv := rfl
@[simp] theorem State.takeByte_flt (b : Byte) (s : State) : (s.takeByte b).flt = s.flt := rfl
@[simp] theorem State.takeByte_lasterr (b : Byte) (s : State) : (s.takeByte b).lasterr = s.lasterr := rfl
@[simp] theorem State.takeByte_hsize (b : Byte) (s : State) : (s.takeByte b).hsize = s.hsize := rfl
@[simp] theorem State.takeByte_cipher (b : Byte) (s : State) : (s.takeByte b).cipher = s.cipher.takeByte b := rfl
@[simp] theorem State.takeByte_hash (b : Byte) (s : State) : (s.takeByte b).hash = s.hash := rfl
@[simp] theorem State.takeByte_msg (b : Byte) (s : State) : (s.takeByte b).msg = s.msg := rfl
@[simp] theorem State.takeByte_len (b : Byte) (s : State) : (s.takeByte b).len = s.len := rfl
@[simp] theorem State.takeByte_phase (b : Byte) (s : State) : (s.takeByte b).phase = s.phase := rfl
@[simp] theorem State.takeByte_rst (b : Byte) (s : State) : (s.takeByte b).rst = s.rst := rfl
@[simp] theorem State.takeByte_cfgHsize (b : Byte) (s : State) : (s.takeByte b).cfgHsize = s.cfgHsize := rfl
@[simp] theorem State.takeByte_cmd (b : Byte) (s : State) : (s.takeByte b).cmd = s.cmd := rfl
@[simp] theorem State.takeByte_din (b : Byte) (s : State) : (s.takeByte b).din = s.din := rfl
@[simp] theorem State.takeByte_sink (b : Byte) (s : State) : (s.takeByte b).sink = s.sink := rfl
@[simp] theorem State.takeByte_sinkAfter (b : Byte) (s : State) : (s.takeByte b).sinkAfter = s.sinkAfter := rfl
@[simp] theorem State.takeByte_dout (b : Byte) (s : State) : (s.takeByte b).dout = s.dout := rfl
@[simp] theorem State.takeByte_rspRoom (b : Byte) (s : State) : (s.takeByte b).rspRoom = s.rspRoom := rfl
@[simp] theorem State.takeByte_rsp (b : Byte) (s : State) : (s.takeByte b).rsp = s.rsp := rfl
@[simp] theorem State.takeByte_draws (b : Byte) (s : State) : (s.takeByte b).draws = s.draws := rfl
@[simp] theorem State.takeByte_cfg (b : Byte) (s : State) : (s.takeByte b).cfg = s.cfg := rfl

@[simp] theorem State.markEnd_key (s : State) : (s.markEnd).key = s.key := rfl
@[simp] theorem State.markEnd_keyv (s : State) : (s.markEnd).keyv = s.keyv := rfl
@[simp] theorem State.markEnd_flt (s : State) : (s.markEnd).flt = s.flt := rfl
@[simp] theorem State.markEnd_lasterr (s : State) : (s.markEnd).lasterr = s.lasterr := rfl
@[simp] theorem State.markEnd_hsize (s : State) : (s.markEnd).hsize = s.hsize := rfl
@[simp] theorem State.markEnd_hash (s : State) : (s.markEnd).hash = s.hash := rfl
@[simp] theorem State.markEnd_msg (s : State) : (s.markEnd).msg = s.msg := rfl
@[simp] theorem State.markEnd_len (s : State) : (s.markEnd).len = s.len := rfl
@[simp] theorem State.markEnd_phase (s : State) : (s.markEnd).phase = s.phase := rfl
@[simp] theorem State.markEnd_rst (s : State) : (s.markEnd).rst = s.rst := rfl
@[simp] theorem State.markEnd_cfgHsize (s : State) : (s.markEnd).cfgHsize = s.cfgHsize := rfl
@[simp] theorem State.markEnd_cmd (s : State) : (s.markEnd).cmd = s.cmd := rfl
@[simp] theorem State.markEnd_din (s : State) : (s.markEnd).din = s.din := rfl
@[simp] theorem State.markEnd_sink (s : State) : (s.markEnd).sink = s.sink := rfl
@[simp] theorem State.markEnd_sinkAfter (s : State) : (s.markEnd).sinkAfter = s.sinkAfter := rfl
@[simp] theorem State.markEnd_dout (s : State) : (s.markEnd).dout = s.dout := rfl
@[simp] theorem State.markEnd_rspRoom (s : State) : (s.markEnd).rspRoom = s.rspRoom := rfl
@[simp] theorem State.markEnd_rsp (s : State) : (s.markEnd).rsp = s.rsp := rfl
@[simp] theorem State.markEnd_draws (s : State) : (s.markEnd).draws = s.draws := rfl
@[simp] theorem State.markEnd_cfg (s : State) : (s.markEnd).cfg = s.cfg := rfl

@[simp] theorem State.startMessage_key (s : State) : (s.startMessage).key = s.key := rfl
@[simp] theorem State.startMessage_keyv (s : State) : (s.startMessage).keyv = s.keyv := rfl
@[simp] theorem State.startMessage_flt (s : State) : (s.startMessage).flt = s.flt := rfl
@[simp] theorem State.startMessage_lasterr (s : State) : (s.startMessage).lasterr = s.lasterr := rfl
@[simp] theorem State.startMessage_hsize (s : State) : (s.startMessage).hsize = s.hsize := rfl
@[simp] theorem State.startMessage_cipher (s : State) : (s.startMessage).cipher = s.cipher := rfl
@[simp] theorem State.startMessage_hash (s : State) : (s.startMessage).hash = s.hash := rfl
@[simp] theorem State.startMessage_msg (s : State) : (s.startMessage).msg = s.msg := rfl
@[simp] theorem State.startMessage_len (s : State) : (s.startMessage).len = 0 := rfl
@[simp] theorem State.startMessage_phase (s : State) : (s.startMessage).phase = s.phase := rfl
@[simp] theorem State.startMessage_rst (s : State) : (s.startMessage).rst = s.rst := rfl
@[simp] theorem State.startMessage_cfgHsize (s : State) : (s.startMessage).cfgHsize = s.cfgHsize := rfl
@[simp] theorem State.startMessage_cmd (s : State) : (s.startMessage).cmd = s.cmd := rfl
@[simp] theorem State.startMessage_din (s : State) : (s.startMessage).din = s.din := rfl
@[simp] theorem State.startMessage_sink (s : State) : (s.startMessage).sink = s.sink := rfl
@[simp] theorem State.startMessage_sinkAfter (s : State) : (s.startMessage).sinkAfter = s.sinkAfter := rfl
@[simp] theorem State.startMessage_dout (s : State) : (s.startMessage).dout = s.dout := rfl
@[simp] theorem State.startMessage_rspRoom (s : State) : (s.startMessage).rspRoom = s.rspRoom := rfl
@[simp] theorem State.startMessage_rsp (s : State) : (s.startMessage).rsp = s.rsp := rfl
@[simp] theorem State.startMessage_draws (s : State) : (s.startMessage).draws = s.draws := rfl
@[simp] theorem State.startMessage_cfg (s : State) : (s.startMessage).cfg = s.cfg := rfl

@[simp] theorem State.storeByte_key (b : Byte) (s : State) : (s.storeByte b).key = s.key := rfl
@[simp] theorem State.storeByte_keyv (b : Byte) (s : State) : (s.storeByte b).keyv = s.keyv := rfl
@[simp] theorem State.storeByte_flt (b : Byte) (s : State) : (s.storeByte b).flt = s.flt := rfl
@[simp] theorem State.storeByte_lasterr (b : Byte) (s : State) : (s.storeByte b).lasterr = s.lasterr := rfl
@[simp] theorem State.storeByte_hsize (b : Byte) (s : State) : (s.storeByte b).hsize = s.hsize := rfl
@[simp] theorem State.storeByte_cipher (b : Byte) (s : State) : (s.storeByte b).cipher = s.cipher := rfl
@[simp] theorem State.storeByte_hash (b : Byte) (s : State) : (s.storeByte b).hash = s.hash := rfl
@[simp] theorem State.storeByte_msg (b : Byte) (s : State) : (s.storeByte b).msg = memWrite s.msg s.len [b] := rfl
@[simp] theorem State.storeByte_len (b : Byte) (s : State) : (s.storeByte b).len = s.len + 1 := rfl
@[simp] theorem State.storeByte_phase (b : Byte) (s : State) : (s.storeByte b).phase = s.phase := rfl
@[simp] theorem State.storeByte_rst (b : Byte) (s : State) : (s.storeByte b).rst = s.rst := rfl
@[simp] theorem State.storeByte_cfgHsize (b : Byte) (s : State) : (s.storeByte b).cfgHsize = s.cfgHsize := rfl
@[simp] theorem State.storeByte_cmd (b : Byte) (s : State) : (s.storeByte b).cmd = s.cmd := rfl
@[simp] theorem State.storeByte_din (b : Byte) (s : State) : (s.storeByte b).din = s.din := rfl
@[simp] theorem State.storeByte_sink (b : Byte) (s : State) : (s.storeByte b).sink = s.sink := rfl
@[simp] theorem State.storeByte_sinkAfter (b : Byte) (s : State) : (s.storeByte b).sinkAfter = s.sinkAfter := rfl
@[simp] theorem State.storeByte_dout (b : Byte) (s : State) : (s.storeByte b).dout = s.dout := rfl
@[simp] theorem State.storeByte_rspRoom (b : Byte) (s : State) : (s.storeByte b).rspRoom = s.rspRoom := rfl
@[simp] theorem State.storeByte_rsp (b : Byte) (s : State) : (s.storeByte b).rsp = s.rsp := rfl
@[simp] theorem State.storeByte_draws (b : Byte) (s : State) : (s.storeByte b).draws = s.draws := rfl
@[simp] theorem State.storeByte_cfg (b : Byte) (s : State) : (s.storeByte b).cfg = s.cfg := rfl

@[simp] theorem State.resetMove_key (s : State) : (s.resetMove).key = keyAtReset := rfl
@[simp] theorem State.resetMove_keyv (s : State) : (s.resetMove).keyv = false := rfl
@[simp] theorem State.resetMove_flt (s : State) : (s.resetMove).flt = 0 := rfl
@[simp] theorem State.resetMove_lasterr (s : State) : (s.resetMove).lasterr = 0 := rfl
@[simp] theorem State.resetMove_hsize (s : State) : (s.resetMove).hsize = strapSize s.cfgHsize := rfl
@[simp] theorem State.resetMove_cipher (s : State) : (s.resetMove).cipher = .atReset := rfl
@[simp] theorem State.resetMove_hash (s : State) : (s.resetMove).hash = .atReset := rfl
@[simp] theorem State.resetMove_msg (s : State) : (s.resetMove).msg = [] := rfl
@[simp] theorem State.resetMove_len (s : State) : (s.resetMove).len = 0 := rfl
@[simp] theorem State.resetMove_phase (s : State) : (s.resetMove).phase = .idle := rfl
@[simp] theorem State.resetMove_rst (s : State) : (s.resetMove).rst = s.rst := rfl
@[simp] theorem State.resetMove_cfgHsize (s : State) : (s.resetMove).cfgHsize = s.cfgHsize := rfl
@[simp] theorem State.resetMove_cmd (s : State) : (s.resetMove).cmd = s.cmd := rfl
@[simp] theorem State.resetMove_din (s : State) : (s.resetMove).din = s.din := rfl
@[simp] theorem State.resetMove_sink (s : State) : (s.resetMove).sink = s.sink := rfl
@[simp] theorem State.resetMove_sinkAfter (s : State) : (s.resetMove).sinkAfter = s.sinkAfter := rfl
@[simp] theorem State.resetMove_dout (s : State) : (s.resetMove).dout = s.dout := rfl
@[simp] theorem State.resetMove_rspRoom (s : State) : (s.resetMove).rspRoom = s.rspRoom := rfl
@[simp] theorem State.resetMove_rsp (s : State) : (s.resetMove).rsp = s.rsp := rfl
@[simp] theorem State.resetMove_draws (s : State) : (s.resetMove).draws = s.draws := rfl
@[simp] theorem State.resetMove_cfg (s : State) : (s.resetMove).cfg = s.cfg := rfl

@[simp] theorem State.markEnd_icnt (s : State) : s.markEnd.cipher.icnt = s.cipher.icnt := rfl
@[simp] theorem State.markEnd_ibuf (s : State) : s.markEnd.cipher.ibuf = s.cipher.ibuf := rfl
@[simp] theorem State.markEnd_eos (s : State) : s.markEnd.cipher.eos = true := rfl
@[simp] theorem State.startBlock_a (s : State) : s.startBlock.cipher.a = s.cipher.a := rfl
@[simp] theorem State.startBlock_b (s : State) : s.startBlock.cipher.b = s.cipher.b := rfl
@[simp] theorem State.startBlock_rnd (s : State) : s.startBlock.cipher.rnd = s.cipher.rnd := rfl
@[simp] theorem State.startBlock_icnt (s : State) : s.startBlock.cipher.icnt = 0 := rfl
@[simp] theorem State.startBlock_eos (s : State) : s.startBlock.cipher.eos = false := rfl
@[simp] theorem State.startBlock_ibuf (s : State) : s.startBlock.cipher.ibuf = #v[0, 0, 0, 0, 0, 0, 0, 0] := rfl
@[simp] theorem CipherRegs.transform_eos (cs : CSbox) (k : KeyWords) (m : Mode) (r : CipherRegs) :
    (r.transform cs k m).eos = r.eos := rfl
@[simp] theorem CipherRegs.transform_icnt (cs : CSbox) (k : KeyWords) (m : Mode) (r : CipherRegs) :
    (r.transform cs k m).icnt = r.icnt := rfl
@[simp] theorem CipherRegs.transform_ibuf (cs : CSbox) (k : KeyWords) (m : Mode) (r : CipherRegs) :
    (r.transform cs k m).ibuf = r.ibuf := rfl

@[simp] theorem State.freeWork_key (u : StreamUnit) (s : State) : (s.freeWork u).key = s.key := by cases u <;> rfl
@[simp] theorem State.freeWork_keyv (u : StreamUnit) (s : State) : (s.freeWork u).keyv = s.keyv := by cases u <;> rfl
@[simp] theorem State.freeWork_flt (u : StreamUnit) (s : State) : (s.freeWork u).flt = s.flt := by cases u <;> rfl
@[simp] theorem State.freeWork_lasterr (u : StreamUnit) (s : State) :
    (s.freeWork u).lasterr = s.lasterr := by cases u <;> rfl
@[simp] theorem State.freeWork_hsize (u : StreamUnit) (s : State) : (s.freeWork u).hsize = s.hsize := by cases u <;> rfl
@[simp] theorem State.freeWork_msg (u : StreamUnit) (s : State) : (s.freeWork u).msg = s.msg := by cases u <;> rfl
@[simp] theorem State.freeWork_len (u : StreamUnit) (s : State) : (s.freeWork u).len = s.len := by cases u <;> rfl
@[simp] theorem State.freeWork_phase (u : StreamUnit) (s : State) : (s.freeWork u).phase = s.phase := by cases u <;> rfl
@[simp] theorem State.freeWork_rst (u : StreamUnit) (s : State) : (s.freeWork u).rst = s.rst := by cases u <;> rfl
@[simp] theorem State.freeWork_cfgHsize (u : StreamUnit) (s : State) :
    (s.freeWork u).cfgHsize = s.cfgHsize := by cases u <;> rfl
@[simp] theorem State.freeWork_cmd (u : StreamUnit) (s : State) : (s.freeWork u).cmd = s.cmd := by cases u <;> rfl
@[simp] theorem State.freeWork_din (u : StreamUnit) (s : State) : (s.freeWork u).din = s.din := by cases u <;> rfl
@[simp] theorem State.freeWork_sink (u : StreamUnit) (s : State) : (s.freeWork u).sink = s.sink := by cases u <;> rfl
@[simp] theorem State.freeWork_sinkAfter (u : StreamUnit) (s : State) :
    (s.freeWork u).sinkAfter = s.sinkAfter := by cases u <;> rfl
@[simp] theorem State.freeWork_dout (u : StreamUnit) (s : State) : (s.freeWork u).dout = s.dout := by cases u <;> rfl
@[simp] theorem State.freeWork_rspRoom (u : StreamUnit) (s : State) :
    (s.freeWork u).rspRoom = s.rspRoom := by cases u <;> rfl
@[simp] theorem State.freeWork_rsp (u : StreamUnit) (s : State) : (s.freeWork u).rsp = s.rsp := by cases u <;> rfl
@[simp] theorem State.freeWork_cfg (u : StreamUnit) (s : State) : (s.freeWork u).cfg = s.cfg := by cases u <;> rfl
@[simp] theorem State.freeWork_draws (u : StreamUnit) (s : State) :
    (s.freeWork u).draws = s.draws + 1 := by cases u <;> rfl
@[simp] theorem State.freeWork_hash_of_cipher (s : State) : (s.freeWork .cipher).hash = s.hash := rfl
@[simp] theorem State.freeWork_cipher_of_hash (s : State) : (s.freeWork .hash).cipher = s.cipher := rfl

end Sys2Proof.Machine
end

