-- ==== Sys2Proof/Laws/Memory.lean ====
section
/-! SUPPORT. Every operation on the message buffer keeps its canonical form, and a store adds no address but its own. -/

namespace Sys2Proof.Machine

theorem mem_memCons {c : Host.Cell} {a : Nat} {b : Byte} {m : Memory} (h : c ∈ memCons a b m) : c = (a, b) ∨ c ∈ m := by
  unfold memCons at h
  split at h
  · exact .inr h
  · simpa using h

theorem mem_memPut {c : Host.Cell} {m : Memory} {a : Nat} {b : Byte} (h : c ∈ memPut m a b) : c.1 = a ∨ c ∈ m := by
  induction m with
  | nil => exact .inl (by rcases mem_memCons h with rfl | h <;> simp_all)
  | cons d m ih =>
    unfold memPut at h
    split at h
    · rcases mem_memCons h with rfl | h
      · exact .inl rfl
      · exact .inr h
    · split at h
      · rcases mem_memCons h with rfl | h
        · exact .inl rfl
        · exact .inr (.tail _ h)
      · rcases List.mem_cons.1 h with rfl | h
        · exact .inr (.head _)
        · exact (ih h).imp_right (.tail _)

theorem memCons_wf {a : Nat} {b : Byte} {m : Memory} (hm : Memory.wf m) (ha : ∀ c ∈ m, a < c.1) :
    Memory.wf (memCons a b m) := by
  unfold memCons
  split
  · exact hm
  · rename_i hb
    exact ⟨List.pairwise_cons.2 ⟨ha, hm.1⟩, List.forall_mem_cons.2 ⟨hb, hm.2⟩⟩

theorem wf_tail {c : Host.Cell} {m : Memory} (h : Memory.wf (c :: m)) : Memory.wf m :=
  ⟨(List.pairwise_cons.1 h.1).2, (List.forall_mem_cons.1 h.2).2⟩

/-- A store keeps the canonical form. -/
theorem memPut_wf {m : Memory} {a : Nat} {b : Byte} (hm : Memory.wf m) : Memory.wf (memPut m a b) := by
  induction m with
  | nil => exact memCons_wf hm (by simp)
  | cons d m ih =>
    have hd := (List.pairwise_cons.1 hm.1).1
    unfold memPut
    split
    · rename_i h
      exact memCons_wf hm (List.forall_mem_cons.2 ⟨h, fun c hc => Nat.lt_trans h (hd c hc)⟩)
    · split
      · rename_i h
        exact memCons_wf (wf_tail hm) (fun c hc => h ▸ hd c hc)
      · rename_i h1 h2
        obtain ⟨ih1, ih2⟩ := ih (wf_tail hm)
        refine ⟨List.pairwise_cons.2 ⟨fun c hc => ?_, ih1⟩, List.forall_mem_cons.2 ⟨hm.2 d (.head _), ih2⟩⟩
        rcases mem_memPut hc with h | h
        · omega
        · exact hd c h

/-- A store of several bytes keeps the canonical form. -/
theorem memWrite_wf {m : Memory} {a : Nat} (bs : List Byte) (hm : Memory.wf m) : Memory.wf (memWrite m a bs) := by
  induction bs generalizing m a with
  | nil => exact hm
  | cons b bs ih => exact ih (memPut_wf hm)

/-- The buffer is canonical after reset. -/
theorem reset_msg_wf : Memory.wf State.reset.msg := by decide

end Sys2Proof.Machine
end

