-- ==== Sys2Proof/Laws/Ops.lean ====
section
/-! SUPPORT. Everything each shared port operation can do, said once. -/

namespace Sys2Proof.Machine

/-! ## One DOUT write -/

theorem sinkAt_zero (s : State) : s.sinkAt 0 = s.sinkAnswer := by
  unfold State.sinkAt State.sinkAnswer
  cases s.sink <;> rfl

theorem sinkAt_wrote (s : State) (es : List DoutEvent) (j : Nat) : (s.wrote es).sinkAt j = s.sinkAt (es.length + j) := by
  simp [State.sinkAt, List.getElem?_drop]

/-- A DOUT write waits while the sink does not answer, and otherwise is one more entry of DOUT with its answer. -/
theorem doutWrite_eq (t : DoutToken) (s : State) :
    s.doutWrite t = (s.sinkAt 0).map fun a => (a, s.wrote [{ token := t, answer := a }]) := by
  rw [sinkAt_zero]
  unfold State.doutWrite
  cases s.sinkAnswer with
  | none => rfl
  | some a => simp [State.wrote]

theorem wrote_wrote (s : State) (es fs : List DoutEvent) : (s.wrote es).wrote fs = s.wrote (es ++ fs) := by
  simp [State.wrote, List.drop_drop]

theorem wrote_nil (s : State) : s.wrote [] = s := by simp [State.wrote]

/-! ## A run of DOUT writes -/

/-- The writes a run of DOUT writes made, by how it ended (R74, R128). -/
def SentBy (bs : List Byte) (es : List DoutEvent) : Sent → Prop
  | .done => es = okBytes bs
  | .refused => ∃ pre b post, bs = pre ++ b :: post ∧ es = okBytes pre ++ [{ token := .byte b, answer := .err }]
  | .waiting left => ∃ pre post, bs = pre ++ post ∧ post ≠ [] ∧ post.length = left ∧ es = okBytes pre

/-- All that `sendBytes` can do: it writes a prefix of its bytes, and changes DOUT and the sink only. -/
theorem sendBytes_spec (bs : List Byte) (s : State) :
    ∃ es, (sendBytes bs s).2 = s.wrote es ∧ SentBy bs es (sendBytes bs s).1 := by
  induction bs generalizing s with
  | nil => exact ⟨[], (wrote_nil s).symm, rfl⟩
  | cons b bs ih =>
    simp only [sendBytes, doutWrite_eq]
    cases s.sinkAt 0 with
    | none => exact ⟨[], (wrote_nil s).symm, [], b :: bs, rfl, by simp, by simp, rfl⟩
    | some a =>
      cases a with
      | err => exact ⟨_, rfl, [], b, bs, rfl, rfl⟩
      | ok =>
        obtain ⟨es, h1, h2⟩ := ih (s.wrote [{ token := .byte b, answer := .ok }])
        simp only [Option.map_some]
        refine ⟨{ token := .byte b, answer := .ok } :: es, by rw [h1, wrote_wrote]; rfl, ?_⟩
        generalize (sendBytes bs (s.wrote [{ token := .byte b, answer := .ok }])).1 = r at h2
        cases r with
        | done => simp_all [SentBy, okBytes]
        | refused =>
          obtain ⟨pre, b', post, rfl, rfl⟩ := h2
          exact ⟨b :: pre, b', post, rfl, rfl⟩
        | waiting left =>
          obtain ⟨pre, post, rfl, hp, hl, rfl⟩ := h2
          exact ⟨b :: pre, post, rfl, hp, hl, rfl⟩

/-- While the sink answers `ok`, `sendBytes` writes every byte. -/
theorem sendBytes_ok {bs : List Byte} {s : State} (h : s.SinkOk bs.length) :
    sendBytes bs s = (.done, s.wrote (okBytes bs)) := by
  induction bs generalizing s with
  | nil => simp [sendBytes, okBytes, wrote_nil]
  | cons b bs ih =>
    have h0 : s.sinkAt 0 = some .ok := h 0 (by simp)
    have ht : (s.wrote [{ token := .byte b, answer := .ok }]).SinkOk bs.length := fun j hj => by
      rw [sinkAt_wrote, List.length_singleton]; exact h (1 + j) (by simp; omega)
    simp [sendBytes, doutWrite_eq, h0, ih ht, wrote_wrote, okBytes]

/-! ## A run of RSP writes -/

/-- The state after RSP words were taken. -/
def State.answered (ws : List Word) (s : State) : State :=
  { s with rsp := s.rsp ++ ws, rspRoom := s.rspRoom.map (· - ws.length) }

theorem answered_nil (s : State) : s.answered [] = s := by
  cases s
  simp [State.answered]

theorem answered_answered (s : State) (ws vs : List Word) : (s.answered ws).answered vs = s.answered (ws ++ vs) := by
  cases h : s.rspRoom <;> simp [State.answered, h, Nat.sub_sub]

/-- An RSP write waits while the host takes no word, and otherwise is one more word of RSP. -/
theorem rspWrite_eq (w : Word) (s : State) :
    s.rspWrite w = if s.rspRoom = some 0 then none else some (s.answered [w]) := by
  unfold State.rspWrite
  split <;> rename_i h <;> simp [h, State.answered]

/-- All that `sendRsp` can do: it puts out as many words as the host takes. -/
theorem sendRsp_spec (ws : List Word) (s : State) :
    ∃ pre post, ws = pre ++ post ∧ sendRsp ws s = (post.length, s.answered pre) ∧
      (post ≠ [] → (s.answered pre).rspRoom = some 0) := by
  induction ws generalizing s with
  | nil => exact ⟨[], [], rfl, by simp [sendRsp, answered_nil], by simp⟩
  | cons w ws ih =>
    by_cases h : s.rspRoom = some 0
    · exact ⟨[], w :: ws, rfl, by simp [sendRsp, rspWrite_eq, h, answered_nil], fun _ => by simp [State.answered, h]⟩
    · obtain ⟨pre, post, rfl, h1, h2⟩ := ih (s.answered [w])
      refine ⟨w :: pre, post, rfl, ?_, fun hp => ?_⟩
      · simp [sendRsp, rspWrite_eq, h, h1, answered_answered]
      · simpa [answered_answered] using h2 hp

/-! ## The ends of a stream command -/

/-- All that `release` can do: wait for the sink, or write `End`, whatever the answer, and enter the fault. -/
theorem release_eq (u : StreamUnit) (f : Fault) (s : State) :
    s.release u f = match s.sinkAt 0 with
      | none => s.waitAt (.release u f)
      | some a => ((s.wrote [{ token := .endTok, answer := a }]).raise f).freeWork u := by
  simp only [State.release, doutWrite_eq]
  cases s.sinkAt 0 <;> rfl

/-- All that `finish` can do: wait for the sink, complete, or raise StreamOut. -/
theorem finish_eq (u : StreamUnit) (s : State) :
    s.finish u = match s.sinkAt 0 with
      | none => s.waitAt (.lastEnd u)
      | some .ok => (s.wrote [{ token := .endTok, answer := .ok }]).complete.freeWork u
      | some .err => ((s.wrote [{ token := .endTok, answer := .err }]).raise .streamOut).freeWork u := by
  simp only [State.finish, doutWrite_eq]
  cases s.sinkAt 0 with
  | none => rfl
  | some a => cases a <;> rfl

/-- All that draining can do: wait with DIN empty, or take the packet to its end and release DOUT. -/
theorem drainTokens_spec (u : StreamUnit) (f : Fault) (ts : List DinToken) (s : State) :
    (∃ bs, ts = byteTokens bs ∧ drainTokens u f ts s = (s.setDin []).waitAt (.drain u f)) ∨
    (∃ bs rest, (ts = packet bs rest ∨ ts = brokenPacket bs rest) ∧
      drainTokens u f ts s = (s.setDin rest).release u f) := by
  induction ts with
  | nil => exact .inl ⟨[], rfl, rfl⟩
  | cons t ts ih =>
    cases t with
    | endTok => exact .inr ⟨[], ts, .inl rfl, rfl⟩
    | errTok => exact .inr ⟨[], ts, .inr rfl, rfl⟩
    | byte b =>
      rcases ih with ⟨bs, rfl, h⟩ | ⟨bs, rest, h | h, e⟩
      · exact .inl ⟨b :: bs, rfl, h⟩
      · exact .inr ⟨b :: bs, rest, .inl (by simp [h, packet, byteTokens]), e⟩
      · exact .inr ⟨b :: bs, rest, .inr (by simp [h, brokenPacket, byteTokens]), e⟩

/-! ## One block of a CPROC -/

/-- `WriteBlock()` while the sink answers `ok` and the input goes on: the block is out and the next is read. -/
theorem writeBlock_more {m : Mode} {s : State} (h : s.SinkOk 8) (he : s.cipher.eos = false) :
    writeBlock m 0 s = .more (s.wrote (okBytes (storeHalves (s.cipher.a, s.cipher.b)))).startBlock := by
  have hl : (storeHalves (s.cipher.a, s.cipher.b)).length = 8 := rfl
  simp [writeBlock, sendBytes_ok (hl.symm ▸ h), he]

/-- `WriteBlock()` of the padded final block while the sink answers `ok`: the final `End` follows. -/
theorem writeBlock_last {m : Mode} {s : State} (h : s.SinkOk 8) (he : s.cipher.eos = true) :
    writeBlock m 0 s = .stop ((s.wrote (okBytes (storeHalves (s.cipher.a, s.cipher.b)))).finish .cipher) := by
  have hl : (storeHalves (s.cipher.a, s.cipher.b)).length = 8 := rfl
  simp [writeBlock, sendBytes_ok (hl.symm ▸ h), he]

end Sys2Proof.Machine
end

