-- ==== Sys2Proof/Laws/Moves.lean ====
section
/-! SUPPORT. What a command does depends on neither the phase it comes from nor the DIN field it is handed the tokens of:
the phase and DIN pass through every other update, and every end of a command sets them anew. -/

namespace Sys2Proof.Machine

/-! ## The phase and DIN pass through the other updates -/

@[simp] theorem waitAt_waitAt (s : State) (p q : Phase) : (s.waitAt p).waitAt q = s.waitAt q := rfl
@[simp] theorem setDin_setDin (s : State) (d e : List DinToken) : (s.setDin d).setDin e = s.setDin e := rfl
@[simp] theorem setDin_waitAt (s : State) (p : Phase) (d : List DinToken) :
    (s.waitAt p).setDin d = (s.setDin d).waitAt p := rfl
@[simp] theorem wrote_waitAt (s : State) (p : Phase) (es : List DoutEvent) :
    (s.waitAt p).wrote es = (s.wrote es).waitAt p := rfl
@[simp] theorem wrote_setDin (s : State) (d : List DinToken) (es : List DoutEvent) :
    (s.setDin d).wrote es = (s.wrote es).setDin d := rfl
@[simp] theorem takeByte_waitAt (s : State) (p : Phase) (b : Byte) :
    (s.waitAt p).takeByte b = (s.takeByte b).waitAt p := rfl
@[simp] theorem takeByte_setDin (s : State) (d : List DinToken) (b : Byte) :
    (s.setDin d).takeByte b = (s.takeByte b).setDin d := rfl
@[simp] theorem markEnd_waitAt (s : State) (p : Phase) : (s.waitAt p).markEnd = s.markEnd.waitAt p := rfl
@[simp] theorem markEnd_setDin (s : State) (d : List DinToken) : (s.setDin d).markEnd = s.markEnd.setDin d := rfl
@[simp] theorem startBlock_waitAt (s : State) (p : Phase) : (s.waitAt p).startBlock = s.startBlock.waitAt p := rfl
@[simp] theorem startBlock_setDin (s : State) (d : List DinToken) :
    (s.setDin d).startBlock = s.startBlock.setDin d := rfl
@[simp] theorem transform_waitAt (s : State) (p : Phase) (m : Mode) :
    (s.waitAt p).transform m = (s.transform m).waitAt p := rfl
@[simp] theorem transform_setDin (s : State) (d : List DinToken) (m : Mode) :
    (s.setDin d).transform m = (s.transform m).setDin d := rfl
@[simp] theorem storeByte_waitAt (s : State) (p : Phase) (b : Byte) :
    (s.waitAt p).storeByte b = (s.storeByte b).waitAt p := rfl
@[simp] theorem storeByte_setDin (s : State) (d : List DinToken) (b : Byte) :
    (s.setDin d).storeByte b = (s.storeByte b).setDin d := rfl
@[simp] theorem computeDigest_waitAt (s : State) (p : Phase) :
    (s.waitAt p).computeDigest = s.computeDigest.waitAt p := rfl
@[simp] theorem computeDigest_setDin (s : State) (d : List DinToken) :
    (s.setDin d).computeDigest = s.computeDigest.setDin d := rfl
@[simp] theorem sinkAt_waitAt (s : State) (p : Phase) (j : Nat) : (s.waitAt p).sinkAt j = s.sinkAt j := rfl
@[simp] theorem sinkAt_setDin (s : State) (d : List DinToken) (j : Nat) : (s.setDin d).sinkAt j = s.sinkAt j := rfl
@[simp] theorem sinkAt_startBlock (s : State) (j : Nat) : s.startBlock.sinkAt j = s.sinkAt j := rfl
@[simp] theorem sinkAt_takeByte (s : State) (b : Byte) (j : Nat) : (s.takeByte b).sinkAt j = s.sinkAt j := rfl
@[simp] theorem sinkAt_markEnd (s : State) (j : Nat) : s.markEnd.sinkAt j = s.sinkAt j := rfl
@[simp] theorem sinkAt_transform (s : State) (m : Mode) (j : Nat) : (s.transform m).sinkAt j = s.sinkAt j := rfl
@[simp] theorem sinkAt_storeByte (s : State) (b : Byte) (j : Nat) : (s.storeByte b).sinkAt j = s.sinkAt j := rfl
@[simp] theorem sinkAt_computeDigest (s : State) (j : Nat) : s.computeDigest.sinkAt j = s.sinkAt j := rfl
@[simp] theorem sinkAt_startMessage (s : State) (j : Nat) : s.startMessage.sinkAt j = s.sinkAt j := rfl
@[simp] theorem raise_waitAt (s : State) (p : Phase) (f : Fault) : (s.waitAt p).raise f = s.raise f := rfl
@[simp] theorem complete_waitAt (s : State) (p : Phase) : (s.waitAt p).complete = s.complete := rfl
@[simp] theorem freeWork_waitAt (s : State) (p : Phase) (u : StreamUnit) :
    (s.waitAt p).freeWork u = (s.freeWork u).waitAt p := by cases u <;> rfl

/-! ## The ends of a command -/

@[simp] theorem release_waitAt (u : StreamUnit) (f : Fault) (s : State) (p : Phase) :
    (s.waitAt p).release u f = s.release u f := by
  simp [release_eq]

@[simp] theorem finish_waitAt (u : StreamUnit) (s : State) (p : Phase) : (s.waitAt p).finish u = s.finish u := by
  simp [finish_eq]

@[simp] theorem drainTokens_waitAt (u : StreamUnit) (f : Fault) (ts : List DinToken) (s : State) (p : Phase) :
    drainTokens u f ts (s.waitAt p) = drainTokens u f ts s := by
  induction ts with
  | nil => rfl
  | cons t ts ih => cases t <;> simp [drainTokens, ih]

@[simp] theorem drainTokens_setDin (u : StreamUnit) (f : Fault) (ts d : List DinToken) (s : State) :
    drainTokens u f ts (s.setDin d) = drainTokens u f ts s := by
  induction ts with
  | nil => rfl
  | cons t ts ih => cases t <;> simp [drainTokens, ih]

@[simp] theorem drain_waitAt (u : StreamUnit) (f : Fault) (s : State) (p : Phase) :
    (s.waitAt p).drain u f = s.drain u f := drainTokens_waitAt u f s.din s p

/-! ## DOUT writes -/

@[simp] theorem sendBytes_waitAt (bs : List Byte) (s : State) (p : Phase) :
    sendBytes bs (s.waitAt p) = ((sendBytes bs s).1, (sendBytes bs s).2.waitAt p) := by
  induction bs generalizing s with
  | nil => rfl
  | cons b bs ih =>
    simp only [sendBytes, doutWrite_eq, sinkAt_waitAt, wrote_waitAt]
    cases s.sinkAt 0 with
    | none => rfl
    | some a => cases a with
      | ok => exact ih _
      | err => rfl

/-! ## CPROC -/

/-- The state of a flow that goes on, at another phase. -/
def Flow.waitAt (p : Phase) : Flow → Flow
  | .more s => .more (s.waitAt p)
  | .stop s => .stop s

theorem writeBlock_waitAt (m : Mode) (k : Nat) (s : State) (p : Phase) :
    writeBlock m k (s.waitAt p) = (writeBlock m k s).waitAt p := by
  simp only [writeBlock, sendBytes_waitAt, State.waitAt_cipher]
  rcases sendBytes ((storeHalves (s.cipher.a, s.cipher.b)).drop k) s with ⟨r, t⟩
  cases r with
  | done => by_cases h : t.cipher.eos = true <;> simp [h, Flow.waitAt]
  | refused => by_cases h : t.cipher.eos = true <;> simp [h, Flow.waitAt]
  | waiting left => rfl

/-- After the padded final block nothing more is read. -/
theorem writeBlock_eos_ne_more {m : Mode} {k : Nat} {s : State} (h : s.cipher.eos = true) (u : State) :
    writeBlock m k s ≠ .more u := by
  intro hw
  obtain ⟨es, he, -⟩ := sendBytes_spec ((storeHalves (s.cipher.a, s.cipher.b)).drop k) s
  unfold writeBlock at hw
  rcases hr : sendBytes ((storeHalves (s.cipher.a, s.cipher.b)).drop k) s with ⟨r, t⟩
  rw [hr] at he hw
  subst he
  cases r <;> simp [h] at hw

@[simp] theorem readTokens_waitAt (m : Mode) (ts : List DinToken) (s : State) (p : Phase) :
    readTokens m ts (s.waitAt p) = readTokens m ts s := by
  induction ts generalizing s with
  | nil => rfl
  | cons t ts ih =>
    cases t with
    | byte b =>
      simp only [readTokens, setDin_waitAt, takeByte_waitAt, transform_waitAt, writeBlock_waitAt, ih,
        State.waitAt_cipher]
      split
      · rfl
      · cases writeBlock m 0 (((s.setDin ts).takeByte b).transform m) with
        | more u => exact ih u
        | stop u => rfl
    | endTok =>
      simp only [readTokens, setDin_waitAt, markEnd_waitAt, transform_waitAt, writeBlock_waitAt, finish_waitAt,
        State.waitAt_cipher]
      split
      · rfl
      · have h := writeBlock_eos_ne_more (m := m) (k := 0) (s := (s.setDin ts).markEnd.transform m) rfl
        cases hw : writeBlock m 0 ((s.setDin ts).markEnd.transform m) with
        | more u => exact absurd hw (h u)
        | stop u => rfl
    | errTok => simp [readTokens]

@[simp] theorem readTokens_setDin (m : Mode) (ts d : List DinToken) (s : State) :
    readTokens m ts (s.setDin d) = readTokens m ts s := by
  cases ts with
  | nil => rfl
  | cons t ts => cases t <;> rfl

/-! ## HDIGEST -/

@[simp] theorem sendDigest_waitAt (k : Nat) (s : State) (p : Phase) : (s.waitAt p).sendDigest k = s.sendDigest k := by
  simp only [State.sendDigest, sendBytes_waitAt, State.waitAt_hash, State.waitAt_hsize]
  rcases sendBytes ((digestBytes s.hsize s.hash.h).drop k) s with ⟨r, t⟩
  cases r <;> simp

@[simp] theorem copyTokens_waitAt (ts : List DinToken) (s : State) (p : Phase) :
    copyTokens ts (s.waitAt p) = copyTokens ts s := by
  induction ts generalizing s with
  | nil => rfl
  | cons t ts ih =>
    cases t with
    | byte b => simp [copyTokens, ih]
    | endTok => simp [copyTokens]
    | errTok => simp [copyTokens]

@[simp] theorem copyTokens_setDin (ts d : List DinToken) (s : State) :
    copyTokens ts (s.setDin d) = copyTokens ts s := by
  induction ts generalizing s with
  | nil => rfl
  | cons t ts ih =>
    cases t with
    | byte b => simp [copyTokens, ih]
    | endTok => simp [copyTokens]
    | errTok => simp [copyTokens]

end Sys2Proof.Machine
end

