-- ==== Sys2Proof/Laws/PerInstr.lean ====
section
/-! SUPPORT. Family CommandWords, over every constructor of `Instr`: the words of a command are a well-formed command of
the length R54 gives. -/

namespace Sys2Proof.Laws.CommandWords

/-- The encoder's words pass the three checks of `wellFormedWords`, and their number is the command's length. -/
def Statement (i : Instr) : Prop := wellFormedWords (encode i) = true ∧ (encode i).length = i.length

theorem stat : Statement .stat := ⟨by decide, by decide⟩

theorem setkey (key : KeyWords) : Statement (.setkey key) := by
  have h1 : opKnown (Machine.wordZ 0x10#8) = true := by decide
  have h2 : rsvZero (Machine.wordZ 0x10#8) = true := by decide
  constructor
  · simp [encode, wellFormedWords, commandLength, h1, h2]
  · simp [encode, Instr.length]

theorem getkey : Statement .getkey := ⟨by decide, by decide⟩

theorem cprocUnset : Statement .cprocUnset := ⟨by decide, by decide⟩

theorem cprocEnc : Statement .cprocEnc := ⟨by decide, by decide⟩

theorem cprocDec : Statement .cprocDec := ⟨by decide, by decide⟩

theorem cprocBad : Statement .cprocBad := ⟨by decide, by decide⟩

theorem hdigest : Statement .hdigest := ⟨by decide, by decide⟩

end Sys2Proof.Laws.CommandWords
end

