-- ==== Sys2Proof/Laws/Vectors.lean ====
section
/-! SUPPORT. Bytes of a vector and the vector of listed bytes. -/

namespace Sys2Proof.Machine

@[simp] theorem vecBytes_length (v : Vec) : (vecBytes v).length = 64 := by simp [vecBytes]

theorem vecBytes_getElem (v : Vec) (i : Nat) (h : i < (vecBytes v).length) : (vecBytes v)[i] = vecByte v i := by
  simp [vecBytes]

theorem digestBytes_length (hs : HSize) (h : Vec) : (digestBytes hs h).length = digestLength hs := by
  cases hs <;> simp [digestBytes, digestLength]

end Sys2Proof.Machine
end

