-- ==== Sys2Proof/Tests/Slice0.lean ====
section
/-! SUPPORT. Tests against spec/95_test_vectors.md and hand calculation from the rules, and for every statement with
hypotheses a concrete case that meets them. -/

namespace Sys2Proof.Tests

open Sys2Proof.Machine

/-! ## Small states -/

/-- `K1` of 95_test_vectors.md. -/
def keyK1 : KeyWords := #v[1, 2, 3, 4, 5, 6, 7, 8]

/-- `KK` of 95_test_vectors.md. -/
def keyKK : KeyWords :=
  #v[0xffeeddcc, 0xbbaa9988, 0x77665544, 0x33221100, 0xf0f1f2f3, 0xf4f5f6f7, 0xf8f9fafb, 0xfcfdfeff]

/-- After reset with the strap at 0, toy cipher tables. -/
def base : State := State.resetWith false { resetConfig with csbox := csboxId }

/-- `base` with the key K1 loaded. -/
def keyed : State := { base with key := keyK1, keyv := true }

/-- `base` with a message buffer of four bytes. -/
def small : State := { base with cfg := { base.cfg with msgMax := 4 } }

/-- The bytes 0, 1, …, n-1. -/
def count (n : Nat) : List Byte := (List.range n).map (BitVec.ofNat 8)

/-- The next state, if there is one. -/
def after : Host.Outcome State Fault Refusal → Option State
  | .next t => some t
  | .fault _ => none
  | .refused _ => none

/-- The data bytes on DOUT, the tokens left on DIN, FLT and LASTERR of the next state. -/
def view (o : Host.Outcome State Fault Refusal) : Option (List DoutEvent × Nat × BitVec 8 × BitVec 4) :=
  (after o).map fun t => (t.dout, t.din.length, t.flt, t.lasterr)

/-! ## Well-formed words: an ill-formed term for each check -/

theorem test_wf_accepts_stat : wellFormedWords [0x01000000] = true := by decide

theorem test_wf_refuses_unknown_op : opKnown 0x02000000 = false ∧ wellFormedWords [0x02000000] = false := by decide

theorem test_wf_refuses_reserved_bit_z : rsvZero 0x01000001 = false ∧ wellFormedWords [0x01000001] = false := by decide

theorem test_wf_refuses_reserved_bit_m : rsvZero 0x12000004 = false ∧ wellFormedWords [0x12000004] = false := by decide

theorem test_wf_refuses_short_setkey : wellFormedWords [0x10000000, 1, 2, 3, 4, 5, 6, 7] = false := by decide

theorem test_wf_refuses_word_left_over : wellFormedWords [0x11000000, 0] = false := by decide

/-! ## Decoding: words written out bit by bit from R50 to R52 -/

theorem test_decode_stat : decode [0b00000001000000000000000000000000] = .instr .stat [] := by decide

theorem test_decode_getkey : decode [0b00010001000000000000000000000000] = .instr .getkey [] := by decide

theorem test_decode_cproc_unset : decode [0b00010010000000000000000000000000] = .instr .cprocUnset [] := by decide

theorem test_decode_cproc_enc : decode [0b00010010000000000000000000000001] = .instr .cprocEnc [] := by decide

theorem test_decode_cproc_dec : decode [0b00010010000000000000000000000010] = .instr .cprocDec [] := by decide

theorem test_decode_cproc_bad : decode [0b00010010000000000000000000000011] = .instr .cprocBad [] := by decide

theorem test_decode_hdigest : decode [0b00100000000000000000000000000000] = .instr .hdigest [] := by decide

/-- V-Y3: payload words are not decoded. -/
theorem test_decode_setkey :
    decode [0b00010000000000000000000000000000, 0x12000000, 0, 0xffffffff, 0x01000000, 0x20000000, 0x10000000,
      0x11000000, 0x12000003, 7] =
    .instr (.setkey #v[0x12000000, 0, 0xffffffff, 0x01000000, 0x20000000, 0x10000000, 0x11000000, 0x12000003]) [7] := by
  decide

/-- R76's example as R57 writes it. -/
theorem test_asmLine :
    asmLine (.setkey #v[0xffeeddcc, 0xbbaa9988, 0x77665544, 0x33221100, 0xf0f1f2f3, 0xf4f5f6f7, 0xf8f9fafb, 0xfcfdfeff]) =
      "SETKEY 0xffeeddcc, 0xbbaa9988, 0x77665544, 0x33221100, 0xf0f1f2f3, 0xf4f5f6f7, 0xf8f9fafb, 0xfcfdfeff" := by
  decide +kernel

/-- V-Y1's illegal words. -/
theorem test_decode_illegal :
    [0x00000000, 0xffffffff, 0x12000004, 0x12000101, 0x10000001, 0x01000001, 0x11800000, 0x20000100, 0x02000000,
      0x13000000, 0x21000000].map (fun w => decode [w, 5]) =
    [.illegal .unknownOp [5], .illegal .unknownOp [5], .illegal .reservedBits [5], .illegal .reservedBits [5],
      .illegal .reservedBits [5], .illegal .reservedBits [5], .illegal .reservedBits [5], .illegal .reservedBits [5],
      .illegal .unknownOp [5], .illegal .unknownOp [5], .illegal .unknownOp [5]] := by decide

/-! ## The cipher data path -/

/-- V-C2. -/
theorem test_add32 : add32 0xffffffff 1 = 0 ∧ add32 0x76543210 0xffeeddcc = 0x76430fdc := by decide

/-- V-C3, the order check among them. -/
theorem test_subst :
    subst csboxZ 0x01234567 = 0x1efadf59 ∧ subst csboxZ 0x10000000 = 0x7857cb6c ∧
    subst csboxZ 0x00000001 = 0x1857cb64 := by decide +kernel

/-- V-C4. -/
theorem test_rotl11 : rotl11 0x80000001 = 0x00000c00 ∧ rotl11 0x12345678 = 0xa2b3c091 := by decide

/-- V-C5. -/
theorem test_roundF : roundF csboxZ 0xfedcba98 0x87654321 = 0xfdcbc20c := by decide +kernel

/-- V-C6. -/
theorem test_round :
    round csboxId keyK1 .enc 0 (loadHalves #v[0, 1, 2, 3, 4, 5, 6, 7]) = (0x28314223, 0x04050607) := by decide +kernel

/-- R58 with the 32 bytes of KK (R76's example): the first and the last key word. -/
theorem test_keyOfBytes :
    keyWordOfBytes #v[0xff, 0xee, 0xdd, 0xcc, 0xbb, 0xaa, 0x99, 0x88, 0x77, 0x66, 0x55, 0x44, 0x33, 0x22, 0x11, 0x00,
      0xf0, 0xf1, 0xf2, 0xf3, 0xf4, 0xf5, 0xf6, 0xf7, 0xf8, 0xf9, 0xfa, 0xfb, 0xfc, 0xfd, 0xfe, 0xff] 0 = 0xffeeddcc ∧
    keyWordOfBytes #v[0xff, 0xee, 0xdd, 0xcc, 0xbb, 0xaa, 0x99, 0x88, 0x77, 0x66, 0x55, 0x44, 0x33, 0x22, 0x11, 0x00,
      0xf0, 0xf1, 0xf2, 0xf3, 0xf4, 0xf5, 0xf6, 0xf7, 0xf8, 0xf9, 0xfa, 0xfb, 0xfc, 0xfd, 0xfe, 0xff] 7 =
      0xfcfdfeff := by decide +kernel

/-! ## Commands -/

/-- V-C7 and the length 5 row of V-C9: the toy tables, a whole block and a padded one. -/
theorem test_cproc_enc :
    view (exec .cprocEnc { keyed with din := packet (count 8) [] }) =
      some (okBytes [0xaf, 0x1b, 0xe9, 0xc1, 0x4c, 0x8a, 0x70, 0xe2] ++ [endEvent .ok], 0, 0, 0) ∧
    view (exec .cprocEnc { keyed with din := packet [1, 2, 3, 4, 5] [] }) =
      some (okBytes [0x42, 0x91, 0xf9, 0x02, 0xda, 0x78, 0x05, 0xd4] ++ [endEvent .ok], 0, 0, 0) := by decide +kernel

/-- V-C10: the known answer with the candidate tables, one packet taken and the next left. -/
theorem test_cproc_enc_candidate :
    view (exec .cprocEnc { keyed with
      key := keyKK, cfg := resetConfig, din := packet [0xfe, 0xdc, 0xba, 0x98, 0x76, 0x54, 0x32, 0x10] [.endTok] }) =
      some (okBytes [0x4e, 0xe9, 0x01, 0xe5, 0xc2, 0xd8, 0xca, 0x3d] ++ [endEvent .ok], 1, 0, 0) := by decide +kernel

/-- V-C12: the padding stays. -/
theorem test_cproc_dec :
    view (exec .cprocDec { keyed with din := packet [0x42, 0x91, 0xf9, 0x02, 0xda, 0x78, 0x05, 0xd4] [] }) =
      some (okBytes [1, 2, 3, 4, 5, 0, 0, 0] ++ [endEvent .ok], 0, 0, 0) := by decide +kernel

/-- V-C14, rows 2 and 4: Err after one block; the third byte refused. -/
theorem test_cproc_stream_faults :
    view (exec .cprocEnc { keyed with din := brokenPacket (count 9) [] }) =
      some (okBytes [0xaf, 0x1b, 0xe9, 0xc1, 0x4c, 0x8a, 0x70, 0xe2] ++ [endEvent .ok], 0, 0x04, 2) ∧
    view (exec .cprocEnc { keyed with din := packet (count 10) [], sink := [.ok, .ok, .err] }) =
      some (okBytes [0xaf, 0x1b] ++ [refusedByte 0xe9, endEvent .ok], 0, 0x08, 3) := by decide +kernel

/-- V-C14, rows 6 and 7: no key, and an unset mode, leave the queued packet. -/
theorem test_cproc_before_io :
    view (exec .cprocEnc { base with din := packet [0] [] }) = some ([], 2, 0x20, 5) ∧
    view (exec .cprocUnset { base with din := packet [0] [] }) = some ([], 2, 0x02, 1) := by decide +kernel

theorem test_cproc_bad : view (exec .cprocBad { keyed with din := [.endTok] }) = some ([], 1, 0x02, 1) := by
  decide +kernel

/-- R46: a sink that takes no byte leaves CPROC waiting before byte 1 of the block. -/
theorem test_cproc_waits_for_sink :
    (after (exec .cprocEnc { keyed with din := packet (count 8) [], sink := [.ok], sinkAfter := none })).map
      (fun t => (t.phase, t.din.length)) = some (.write .enc 1, 1) := by decide +kernel

/-- V-Y2: two situations of STATUS. -/
theorem test_stat :
    (after (exec .stat (State.resetWith true resetConfig))).map (·.rsp) = some [0x00002000] ∧
    (after (exec .stat { keyed with flt := 0x02, lasterr := 1 })).map (·.rsp) = some [0x00001102] := by decide +kernel

/-- V-Y2, last row. -/
theorem test_stat_all_faults :
    (after (exec .stat { keyed with flt := 0x7e, lasterr := 6 })).map (·.rsp) = some [0x0000167e] := by decide +kernel

/-- R76's example: KEY[0] is the first payload word. -/
theorem test_setkey :
    (after (exec (.setkey keyKK) { base with lasterr := 4 })).map (fun t => (t.key[0], t.key[7], t.keyv, t.lasterr)) =
      some (0xffeeddcc, 0xfcfdfeff, true, 0) := by decide +kernel

/-- R77: KEY[0] first; with room for three words GETKEY waits before KEY[3]. -/
theorem test_getkey :
    (after (exec .getkey keyed)).map (·.rsp) = some [1, 2, 3, 4, 5, 6, 7, 8] ∧
    (after (exec .getkey { keyed with rspRoom := some 3 })).map (fun t => (t.rsp, t.phase)) =
      some ([1, 2, 3], .getkey 3) := by decide +kernel

/-- V-H14, rows 1 and 2. -/
theorem test_hdigest_stream_faults :
    view (exec .hdigest { base with din := brokenPacket [0x61, 0x62] [] }) = some ([endEvent .ok], 0, 0x04, 2) ∧
    view (exec .hdigest { small with din := packet [1, 2, 3, 4, 5, 6] [] }) = some ([endEvent .ok], 0, 0x40, 6) := by
  decide +kernel

/-- V-H10: the 512-bit digest of the empty message. -/
theorem test_hdigest_empty :
    view (exec .hdigest { base with din := [.endTok] }) =
      some (okBytes (vecBytes
        0x8a1a1c4cbf909f8ecb81cd1b5c713abad26a4cac2a5fda3ce86e352855712f36a7f0be98eb6cf51553b507b73a87e97946aebc29859255049f86aa09a25d948e)
        ++ [endEvent .ok], 0, 0, 0) := by decide +kernel

/-! ## The hash transforms -/

/-- V-H2, rows 1 and 3. -/
theorem test_vecAdd :
    vecAdd (vecOfBytes (List.replicate 64 0xff)) (vecOfBytes (List.replicate 63 0 ++ [1])) = 0 ∧
    vecAdd (vecOfBytes (List.replicate 62 0 ++ [0xfe, 0])) v512 = vecOfBytes (List.replicate 61 0 ++ [1, 0, 0]) := by
  decide +kernel

/-- V-H4: P is the gather of GK3's table. -/
theorem test_pLayer :
    (vecBytes (pLayer resetConfig (vecOfBytes (count 64)))).take 9 =
      [0x00, 0x08, 0x10, 0x18, 0x20, 0x28, 0x30, 0x38, 0x01] := by decide +kernel

/-- V-H5: `state[0] = 80` selects HA[0]; row 5 puts HA[7] ^ HA[62] ^ HA[63] in row 1. -/
theorem test_lLayer :
    lRow resetConfig (vecOfBytes (0x80 :: List.replicate 63 0)) 0 = 0x8e20faa72ba0b470 ∧
    lRow resetConfig (vecOfBytes (List.replicate 8 0 ++ [1, 0, 0, 0, 0, 0, 0, 3] ++ List.replicate 48 0)) 1 =
      0x2f63d8dacfc9bafc := by decide +kernel

/-- V-H7: KeySchedule(0, 0). -/
theorem test_keySchedule :
    keySchedule resetConfig 0 0 =
      0x72f27059183db001139c1270f36a77e90d492dcec5de138b38990e1fb76acd2df4c41dab015767c60d94a03cac8adaad9ba321149627aab261ee3086cf81d2e5 := by
  decide +kernel

/-- V-H13, the 65-byte message `00 … 40`: the chunk is MSG[1..64], M ends `01 00`, N is `02 08`; by hand, SIGMA is the chunk
with its byte 62 raised from 3f to 40. -/
theorem test_digest_takes_the_tail_first :
    let r := (absorbChunks resetConfig (memWrite [] 0 (count 65)) 1 65 (HashRegs.atReset.init .h512)).pad resetConfig
      (memWrite [] 0 (count 65)) 1
    r.n = 0x0208 ∧ (vecBytes r.sigma).take 2 = [0x01, 0x02] ∧ (vecBytes r.sigma).drop 62 = [0x40, 0x40] := by
  decide +kernel

/-! ## The command loop -/

/-- R55, R132: an illegal word is taken alone. -/
theorem test_step_illegal :
    (after (step { base with cmd := [0x12000004, 0x01000000] })).map (fun t => (t.cmd, t.flt, t.lasterr)) =
      some ([0x01000000], 0x10, 4) := by decide +kernel

/-- P6: SETKEY takes two payload words and waits for the third. -/
theorem test_step_setkey_waits :
    (after (step { base with cmd := [0x10000000, 1, 2] })).map (fun t => (t.cmd, t.phase, t.keyv)) =
      some ([], .payload [1, 2], false) := by decide +kernel

/-- R150, R151: reset abandons the command and samples the strap. -/
theorem test_step_reset :
    (after (step { keyed with rst := true, cfgHsize := true, phase := .copy, din := [.endTok] })).map
      (fun t => (t.keyv, t.hsize, t.phase, t.din.length)) = some (false, .h256, .idle, 1) := by decide +kernel

/-- The table's words reach the step. -/
theorem test_fetch_word :
    (after (step (State.reset.withFetchWord 32 0x12000003))).map (fun t => (t.cmd, t.lasterr)) = some ([], 1) := by
  decide +kernel

/-! ## The hypotheses of the statements can be met -/

theorem witness_OpcodeMapIsExact :
    (0x12000004 : Word) ∉
      ([0x01000000, 0x10000000, 0x11000000, 0x12000000, 0x12000001, 0x12000002, 0x12000003, 0x20000000] : List Word) := by
  decide

theorem witness_EncodeOfDecode : decode [0x11000000, 5] = .instr .getkey [5] := by decide

theorem witness_IllegalWordsExactly :
    ({ base with cmd := [0x12000004, 1] } : State).rst = false ∧
    ({ base with cmd := [0x12000004, 1] } : State).phase = .idle ∧
    decode ({ base with cmd := [0x12000004, 1] } : State).cmd = .illegal .reservedBits [1] := by decide

theorem witness_IllegalWords_clauses :
    Machine.opField 0x00000000 ∉ ([0x01, 0x10, 0x11, 0x12, 0x20] : List (BitVec 8)) ∧
    (Machine.opField 0x20000001 ∈ ([0x01, 0x10, 0x11, 0x20] : List (BitVec 8)) ∧ Machine.rsvFieldZ 0x20000001 ≠ 0) ∧
    (Machine.opField 0x12000004 = 0x12 ∧ Machine.rsvFieldM 0x12000004 ≠ 0) := by decide

theorem witness_LengthFromCommandWord :
    decode [0x10000000, 1, 2, 3, 4, 5, 6, 7, 8] = .instr (.setkey keyK1) [] ∧
    decode [0x10000001, 1] = .illegal .reservedBits [1] := by decide

theorem witness_StepRunsDecodedCommand :
    ({ base with cmd := [0x01000000] } : State).rst = false ∧ ({ base with cmd := [0x01000000] } : State).phase = .idle ∧
    decode ({ base with cmd := [0x01000000] } : State).cmd = .instr .stat [] := by decide

/-- No word and seven words of payload; then seven words and none; then seven and one. -/
theorem witness_SetkeyWaitsForPayload :
    base.rst = false ∧ base.phase = .idle ∧
    ({ base with cmd := [0x10000000] } : State).cmd = wordZ 0x10 :: [] ∧
    ({ base with cmd := [0x10000000, 1, 2, 3, 4, 5, 6, 7] } : State).cmd = wordZ 0x10 :: [1, 2, 3, 4, 5, 6, 7] ∧
    ({ base with phase := .payload [1, 2, 3, 4, 5, 6, 7] } : State).phase = .payload [1, 2, 3, 4, 5, 6, 7] ∧
    ([1, 2, 3, 4, 5, 6, 7] ++ base.cmd).length < 8 ∧
    [1, 2, 3, 4, 5, 6, 7] ++ ({ base with cmd := [8, 9] } : State).cmd = keyK1.toList ++ [9] := by decide

theorem witness_StepWaitsOrGoesOn :
    (base.rst = false ∧ base.phase = .idle ∧ base.cmd = []) ∧
    (({ base with phase := .stat } : State).rst = false ∧ ({ base with phase := .stat } : State).phase ≠ .idle ∧
      ∀ got, ({ base with phase := .stat } : State).phase ≠ .payload got) :=
  ⟨⟨rfl, rfl, rfl⟩, rfl, by decide, fun _ => Phase.noConfusion⟩

theorem witness_StatWritesStatus :
    ({ base with rspRoom := some 1 } : State).RspTakes 1 ∧ ({ base with rspRoom := some 0 } : State).rspRoom = some 0 ∧
    (({ base with phase := .stat, rspRoom := some 1 } : State).rst = false ∧
      ({ base with phase := .stat, rspRoom := some 1 } : State).phase = .stat ∧
      ({ base with phase := .stat, rspRoom := some 1 } : State).RspTakes 1) ∧
    (({ base with phase := .stat, rspRoom := some 0 } : State).rst = false ∧
      ({ base with phase := .stat, rspRoom := some 0 } : State).phase = .stat ∧
      ({ base with phase := .stat, rspRoom := some 0 } : State).rspRoom = some 0) :=
  ⟨Nat.le_refl 1, rfl, ⟨rfl, rfl, Nat.le_refl 1⟩, rfl, rfl, rfl⟩

theorem witness_GetkeyReadsBack :
    keyed.keyv = true ∧ ({ keyed with rspRoom := some 8 } : State).RspTakes 8 ∧ keyed.RspTakes 8 ∧
    ({ keyed with rspRoom := some 7 } : State).rspRoom = some 7 ∧ 7 < 8 :=
  ⟨rfl, Nat.le_refl 8, trivial, rfl, by decide⟩

theorem witness_GetkeyGoesOn :
    ({ keyed with phase := .getkey 7, rspRoom := some 1 } : State).rst = false ∧
    ({ keyed with phase := .getkey 7, rspRoom := some 1 } : State).phase = .getkey 7 ∧ 7 < 8 ∧
    ({ keyed with phase := .getkey 7, rspRoom := some 1 } : State).RspTakes (8 - 7) :=
  ⟨rfl, rfl, by decide, Nat.le_refl 1⟩

/-- The host takes one word less than is left, and none. -/
theorem witness_GetkeyGoesOn_partly :
    ({ keyed with phase := .getkey 5, rspRoom := some 2 } : State).rst = false ∧
    ({ keyed with phase := .getkey 5, rspRoom := some 2 } : State).phase = .getkey 5 ∧ 5 < 8 ∧ 2 < 8 - 5 ∧
    ({ keyed with phase := .getkey 5, rspRoom := some 2 } : State).rspRoom = some 2 ∧
    ({ keyed with phase := .getkey 5, rspRoom := some 0 } : State).rspRoom = some 0 := by decide

theorem witness_KeyUnsetBeforeIo : base.keyv = false := by decide

theorem witness_step_out_of_reset : base.rst = false ∧ ∃ t, step base = .next t := ⟨rfl, _, rfl⟩

theorem witness_step_in_reset :
    ({ base with rst := true } : State).rst = true ∧ ∃ t, step { base with rst := true } = .next t := ⟨rfl, _, rfl⟩

theorem witness_schedule_bounds : 23 ≤ 23 ∧ 24 ≤ 24 ∧ 31 ≤ 31 ∧ 31 < 32 := by decide

/-- V-C7's block and its image. -/
theorem witness_BlockRoundTrip :
    (#v[0xaf, 0x1b, 0xe9, 0xc1, 0x4c, 0x8a, 0x70, 0xe2] : Vector Byte 8).toList =
      blockImage csboxId keyK1 .enc #v[0, 1, 2, 3, 4, 5, 6, 7] := by decide +kernel

theorem witness_EqualRoundKeysMakeModesEqual :
    ∀ j k : Fin 8, (#v[7, 7, 7, 7, 7, 7, 7, 7] : KeyWords)[j] = (#v[7, 7, 7, 7, 7, 7, 7, 7] : KeyWords)[k] := by decide

theorem sinkOk_of_after {s : State} (n : Nat) (h : s.sink = []) (ha : s.sinkAfter = some .ok) : s.SinkOk n := by
  intro j _
  simp [State.sinkAt, h, ha]

theorem witness_CprocStreamCompletes :
    ({ keyed with din := packet (count 9) [.errTok] } : State).keyv = true ∧
    ({ keyed with din := packet (count 9) [.errTok] } : State).din = packet (count 9) [.errTok] ∧
    ({ keyed with din := packet (count 9) [.errTok] } : State).SinkOk (8 * blockCount (count 9).length + 1) ∧
    ({ keyed with din := packet (count 9) [.errTok] } : State).SinkOk (2 * (8 * blockCount (count 9).length + 1)) :=
  ⟨rfl, rfl, sinkOk_of_after _ rfl rfl, sinkOk_of_after _ rfl rfl⟩

theorem witness_CprocWaitsForInput :
    ({ keyed with din := byteTokens (count 9) } : State).keyv = true ∧
    ({ keyed with din := byteTokens (count 9) } : State).din = byteTokens (count 9) ∧
    ({ keyed with din := byteTokens (count 9) } : State).SinkOk (8 * ((count 9).length / 8)) :=
  ⟨rfl, rfl, sinkOk_of_after _ rfl rfl⟩

/-- Three tokens offered and the sink as it was; a sink that has stopped taking. -/
theorem witness_CprocInputInPieces :
    (keyed.CanAnswer [] (some .ok) ∧ ∃ t, exec (cprocOf .enc) { keyed with din := byteTokens (count 3) } = .next t) ∧
    (({ keyed with sinkAfter := none } : State).CanAnswer [.ok, .err] none ∧
      ∃ t, exec (cprocOf .enc) { keyed with sinkAfter := none } = .next t) :=
  ⟨⟨.inl ⟨rfl, rfl⟩, _, rfl⟩, .inr rfl, _, rfl⟩

theorem witness_CprocStreamIn :
    ({ keyed with din := brokenPacket (count 9) [] } : State).keyv = true ∧
    ({ keyed with din := brokenPacket (count 9) [] } : State).din = brokenPacket (count 9) [] ∧
    ({ keyed with din := brokenPacket (count 9) [] } : State).SinkOk (8 * ((count 9).length / 8)) ∧
    ({ keyed with din := brokenPacket (count 9) [] } : State).sinkAt (8 * ((count 9).length / 8)) = some .ok :=
  ⟨rfl, rfl, sinkOk_of_after _ rfl rfl, rfl⟩

/-- The last byte of the padded block of a whole packet, and the last byte of the only whole block of a broken one. -/
theorem witness_CprocStreamOut :
    (({ keyed with din := packet (count 9) [] } : State).din = packet (count 9) [] ∧ 15 < 8 * blockCount (count 9).length) ∧
    (({ keyed with din := brokenPacket (count 9) [] } : State).din = brokenPacket (count 9) [] ∧
      7 < 8 * ((count 9).length / 8)) ∧
    keyed.keyv = true ∧
    (∀ j < 15, ({ keyed with sink := List.replicate 15 .ok ++ [.err] } : State).sinkAt j = some .ok) ∧
    ({ keyed with sink := List.replicate 15 .ok ++ [.err] } : State).sinkAt 15 = some .err ∧
    ({ keyed with sink := List.replicate 15 .ok ++ [.err] } : State).sinkAt 16 = some .ok := by decide

theorem witness_CprocFinalEndRefused :
    keyed.keyv = true ∧ ({ keyed with din := packet (count 8) [] } : State).din = packet (count 8) [] ∧
    (∀ j < 8 * blockCount (count 8).length,
      ({ keyed with sink := List.replicate 8 .ok ++ [.err] } : State).sinkAt j = some .ok) ∧
    ({ keyed with sink := List.replicate 8 .ok ++ [.err] } : State).sinkAt (8 * blockCount (count 8).length) =
      some .err := by decide

/-- The message that just fits. -/
theorem witness_HdigestCompletes :
    Memory.wf small.msg ∧ ({ small with din := packet (count 4) [.endTok] } : State).din = packet (count 4) [.endTok] ∧
    (count 4).length ≤ small.cfg.msgMax ∧ small.SinkOk (digestLength small.hsize + 1) :=
  ⟨by decide, rfl, by decide, sinkOk_of_after _ rfl rfl⟩

theorem witness_HdigestReadsBeforeWriting :
    Memory.wf small.msg ∧ ({ small with din := byteTokens (count 4) } : State).din = byteTokens (count 4) ∧
    (count 4).length ≤ small.cfg.msgMax := by decide

theorem witness_HdigestInputInPieces :
    (small.CanAnswer [] (some .ok) ∧ ∃ t, exec .hdigest { small with din := byteTokens (count 4) } = .next t) ∧
    (({ small with sinkAfter := none } : State).CanAnswer [.ok] (some .err) ∧
      ∃ t, exec .hdigest { small with sinkAfter := none } = .next t) :=
  ⟨⟨.inl ⟨rfl, rfl⟩, _, rfl⟩, .inr rfl, _, rfl⟩

theorem witness_HdigestStreamIn :
    ({ small with din := brokenPacket (count 4) [] } : State).din = brokenPacket (count 4) [] ∧
    (count 4).length ≤ small.cfg.msgMax ∧ small.sinkAt 0 = some .ok := by decide

/-- The message one byte too long. -/
theorem witness_HdigestMsgOverflow :
    (({ small with din := packet (count 5) [] } : State).din = packet (count 5) [] ∨
      ({ small with din := packet (count 5) [] } : State).din = brokenPacket (count 5) []) ∧
    small.cfg.msgMax < (count 5).length ∧ small.sinkAt 0 = some .ok := by decide

/-- The same, the packet ended by Err. -/
theorem witness_HdigestMsgOverflow_err :
    (({ small with din := brokenPacket (count 5) [] } : State).din = packet (count 5) [] ∨
      ({ small with din := brokenPacket (count 5) [] } : State).din = brokenPacket (count 5) []) ∧
    small.cfg.msgMax < (count 5).length ∧ small.sinkAt 0 = some .ok := by decide

/-- The last digest byte refused, and the final End refused. -/
theorem witness_HdigestStreamOut :
    Memory.wf base.msg ∧ ({ base with din := packet (count 4) [] } : State).din = packet (count 4) [] ∧
    (count 4).length ≤ base.cfg.msgMax ∧ 63 < digestLength base.hsize ∧
    (∀ j < 63, ({ base with sink := List.replicate 63 .ok ++ [.err] } : State).sinkAt j = some .ok) ∧
    ({ base with sink := List.replicate 63 .ok ++ [.err] } : State).sinkAt 63 = some .err ∧
    ({ base with sink := List.replicate 63 .ok ++ [.err] } : State).sinkAt (63 + 1) = some .ok ∧
    (∀ j < 64, ({ base with sink := List.replicate 64 .ok ++ [.err] } : State).sinkAt j = some .ok) ∧
    ({ base with sink := List.replicate 64 .ok ++ [.err] } : State).sinkAt (digestLength base.hsize) = some .err := by
  decide

/-- CPROC's clauses: the last byte of a whole block, the last byte of the padded block and the final End, the End after Err,
the End after a refused byte. -/
theorem witness_StreamsWaitForSink_cproc :
    keyed.keyv = true ∧
    ((∀ j < 7, ({ keyed with sink := List.replicate 7 .ok, sinkAfter := none } : State).sinkAt j = some .ok) ∧
      ({ keyed with sink := List.replicate 7 .ok, sinkAfter := none } : State).sinkAt 7 = none ∧
      ({ keyed with din := byteTokens (count 8) ++ [.endTok] } : State).din = byteTokens (count 8) ++ [.endTok] ∧
      7 < 8 * ((count 8).length / 8)) ∧
    (({ keyed with din := packet (count 9) [] } : State).din = packet (count 9) [] ∧
      (∀ j < 16, ({ keyed with sink := List.replicate 16 .ok, sinkAfter := none } : State).sinkAt j = some .ok) ∧
      ({ keyed with sink := List.replicate 16 .ok, sinkAfter := none } : State).sinkAt 16 = none ∧
      8 * ((count 9).length / 8) ≤ 15 ∧ 15 < 8 * blockCount (count 9).length ∧ 16 = 8 * blockCount (count 9).length) ∧
    (({ keyed with din := brokenPacket (count 9) [] } : State).din = brokenPacket (count 9) [] ∧
      8 = 8 * ((count 9).length / 8)) ∧
    ({ keyed with sink := [.ok, .err], sinkAfter := none } : State).sinkAt 1 = some .err ∧
    ({ keyed with sink := [.ok, .err], sinkAfter := none } : State).sinkAt (1 + 1) = none := by decide

/-- HDIGEST's clauses: a digest byte and the final End, a refused byte, the End after Err, the End after an overflow. -/
theorem witness_StreamsWaitForSink_hdigest :
    Memory.wf small.msg ∧ (count 4).length ≤ small.cfg.msgMax ∧ small.cfg.msgMax < (count 5).length ∧
    ({ small with din := packet (count 4) [] } : State).din = packet (count 4) [] ∧
    ((∀ j < 64, ({ small with sink := List.replicate 64 .ok, sinkAfter := none } : State).sinkAt j = some .ok) ∧
      ({ small with sink := List.replicate 64 .ok, sinkAfter := none } : State).sinkAt 64 = none ∧
      64 = digestLength small.hsize) ∧
    (({ small with sink := [.ok, .err], sinkAfter := none } : State).sinkAt 1 = some .err ∧
      ({ small with sink := [.ok, .err], sinkAfter := none } : State).sinkAt (1 + 1) = none) ∧
    ({ small with sinkAfter := none } : State).sinkAt 0 = none ∧
    ({ small with din := brokenPacket (count 4) [] } : State).din = brokenPacket (count 4) [] ∧
    ({ small with din := brokenPacket (count 5) [] } : State).din = brokenPacket (count 5) [] := by decide

theorem witness_PortsKeepOrder : base.Inv ∧ ∃ t, step base = .next t :=
  ⟨⟨⟨by decide, .inl rfl⟩, ⟨by decide, by decide, by decide⟩, trivial⟩, _, rfl⟩

theorem witness_MessageBufferReadAfterWrite : Memory.wf [(2, 7), (5, 1)] := by decide

/-- A state in the middle of a CPROC with a recorded fault and a byte in the buffer. -/
theorem witness_StepKeepsInvariant :
    ({ keyed with phase := .read .enc, flt := 0x04, lasterr := 2, msg := [(0, 9)], len := 1 } : State).Inv ∧
    ∃ t, step { keyed with phase := .read .enc, flt := 0x04, lasterr := 2, msg := [(0, 9)], len := 1 } = .next t :=
  ⟨⟨⟨by decide, .inr ⟨.streamIn, by decide, by decide⟩⟩, ⟨by decide, by decide, by decide⟩, ⟨rfl, by decide⟩⟩, _, rfl⟩

theorem witness_KeyWrittenOnlyBySetkey :
    ((∀ k, Instr.stat ≠ .setkey k) ∧ ∃ t, exec .stat base = .next t) ∧
    (base.rst = false ∧ (∃ t, step base = .next t) ∧ ∀ k u, base.fetch ≠ .run (.setkey k) u) :=
  ⟨⟨fun _ => Instr.noConfusion, _, rfl⟩, rfl, ⟨_, rfl⟩, fun _ _ => Fetched.noConfusion⟩

theorem witness_LasterrTellsHowItEnded :
    (∃ t, exec .cprocBad base = .next t ∧ t.phase = .idle) ∧ Instr.cprocBad ≠ .stat ∧ ∃ t, exec .stat base = .next t :=
  ⟨⟨_, rfl, rfl⟩, by decide, _, rfl⟩

/-- A waiting GETKEY that ends, a waiting STAT, a command that goes on waiting, and an illegal word. -/
theorem witness_LasterrTellsHowItEnded_step :
    (∃ t, step { keyed with phase := .getkey 7 } = .next t ∧ t.phase = .idle) ∧
    (∃ t, step { base with phase := .stat } = .next t) ∧
    (∃ t, step { base with phase := .copy } = .next t ∧ t.phase ≠ .idle) ∧
    (decode [0x12000004] ≠ .empty ∧ (∀ rest, decode [0x12000004] ≠ .instr .stat rest) ∧
      ∃ t, step { base with cmd := [0x12000004] } = .next t ∧ t.phase = .idle) :=
  ⟨⟨_, rfl, rfl⟩, ⟨_, rfl⟩, ⟨_, rfl, by decide⟩, by decide, fun _ => Decoded.noConfusion, _, rfl, rfl⟩

theorem witness_WorkingStateUnobservable : Memory.wf base.msg ∧ Memory.wf [(3, 8)] := by decide

end Sys2Proof.Tests
end

section
/-! The byte order of words and blocks (R8, R34, R72, R74). -/

namespace Sys2Proof.Machine

/-- A byte appended at the low end is the last digit to base 256. -/
theorem append_byte_toNat {n : Nat} (x : BitVec n) (b : Byte) :
    (x ++ b).toNat = x.toNat * 2 ^ 8 + b.toNat := by
  rw [BitVec.toNat_append, ← Nat.shiftLeft_add_eq_or_of_lt b.isLt, Nat.shiftLeft_eq]

theorem extractLsb'_append_byte {n : Nat} (x : BitVec n) (b : Byte) (k : Nat) :
    (x ++ b).extractLsb' (k + 8) 8 = x.extractLsb' k 8 :=
  BitVec.extractLsb'_append_eq_of_le (Nat.le_add_left 8 k)

/-- R8: `be32` is the big-endian number of its bytes. -/
theorem be32_toNat (b0 b1 b2 b3 : Byte) :
    (be32 b0 b1 b2 b3).toNat = b0.toNat * 2 ^ 24 + b1.toNat * 2 ^ 16 + b2.toNat * 2 ^ 8 + b3.toNat :=
  calc (be32 b0 b1 b2 b3).toNat
      = (b0 ++ b1 ++ b2).toNat * 2 ^ 8 + b3.toNat := append_byte_toNat _ b3
    _ = ((b0.toNat * 2 ^ 8 + b1.toNat) * 2 ^ 8 + b2.toNat) * 2 ^ 8 + b3.toNat := by
        rw [append_byte_toNat, append_byte_toNat]
    _ = b0.toNat * 2 ^ 24 + b1.toNat * 2 ^ 16 + b2.toNat * 2 ^ 8 + b3.toNat := by ring

/-- R8: `bytes_be32` undoes `be32`. Each byte is found by peeling off the bytes below it. -/
@[simp] theorem bytesBe32_be32 (b0 b1 b2 b3 : Byte) : bytesBe32 (be32 b0 b1 b2 b3) = [b0, b1, b2, b3] := by
  have h0 : (be32 b0 b1 b2 b3).extractLsb' 24 8 = b0 :=
    calc (be32 b0 b1 b2 b3).extractLsb' 24 8
        = (b0 ++ b1 ++ b2).extractLsb' 16 8 := extractLsb'_append_byte _ b3 16
      _ = (b0 ++ b1).extractLsb' 8 8 := extractLsb'_append_byte _ b2 8
      _ = b0 := BitVec.extractLsb'_append_eq_left
  have h1 : (be32 b0 b1 b2 b3).extractLsb' 16 8 = b1 :=
    calc (be32 b0 b1 b2 b3).extractLsb' 16 8
        = (b0 ++ b1 ++ b2).extractLsb' 8 8 := extractLsb'_append_byte _ b3 8
      _ = (b0 ++ b1).extractLsb' 0 8 := extractLsb'_append_byte _ b2 0
      _ = b1 := BitVec.extractLsb'_append_eq_right
  have h2 : (be32 b0 b1 b2 b3).extractLsb' 8 8 = b2 :=
    (extractLsb'_append_byte (b0 ++ b1 ++ b2) b3 0).trans BitVec.extractLsb'_append_eq_right
  have h3 : (be32 b0 b1 b2 b3).extractLsb' 0 8 = b3 := BitVec.extractLsb'_append_eq_right
  rw [bytesBe32, h0, h1, h2, h3]

/-- R72, R74: a block loaded and stored unprocessed has its halves exchanged, each half's bytes in order. -/
theorem storeHalves_loadHalves (x : Vector Byte 8) :
    storeHalves (loadHalves x) = [x[4], x[5], x[6], x[7], x[0], x[1], x[2], x[3]] := by
  simp [storeHalves, loadHalves]

/-- Settles O26: the number of `be32` by base-256 digits, the halves as `LoadBlock()` takes them, and the stored bytes
because `bytes_be32` undoes `be32`. -/
theorem blockByteOrder : Obligations.BlockByteOrder :=
  ⟨be32_toNat, fun x => ⟨rfl, rfl, storeHalves_loadHalves x⟩⟩

end Sys2Proof.Machine
end

section
/-! STATUS and the state after reset (R17, R19, R25). -/

namespace Sys2Proof.Machine

theorem getLsbD_bitWord (b : Bool) (i : Nat) : (bitWord b).getLsbD i = (decide (i = 0) && b) := by
  cases b <;> simp [bitWord, BitVec.getLsbD_one]

theorem getLsbD_fltRead (s : State) (i : Nat) :
    s.fltRead.getLsbD i = (decide (1 ≤ i ∧ i ≤ 6) && s.flt.getLsbD i) := by
  have hmask : ∀ i < 8, (0x7e#8).getLsbD i = decide (1 ≤ i ∧ i ≤ 6) := by decide
  rw [State.fltRead, BitVec.getLsbD_and, Bool.and_comm]
  by_cases hi : i < 8
  · rw [← hmask i hi]; rfl
  · simp [BitVec.getLsbD_of_ge _ i (Nat.le_of_not_lt hi)]

/-- R19, bit by bit: the four fields stand side by side and the rest is 0. -/
theorem getLsbD_status (s : State) (i : Nat) :
    s.status.getLsbD i =
      if i < 8 then s.fltRead.getLsbD i
      else if i < 12 then s.lasterr.getLsbD (i - 8)
      else if i = 12 then s.keyv
      else if i = 13 then s.hsize == .h256
      else false := by
  have hflt : 8 ≤ i → s.fltRead.getLsbD i = false := s.fltRead.getLsbD_of_ge i
  have hcode : 12 ≤ i → s.lasterr.getLsbD (i - 8) = false :=
    fun h => s.lasterr.getLsbD_of_ge (i - 8) (by omega)
  simp only [State.status, BitVec.getLsbD_or, BitVec.getLsbD_shiftLeft, BitVec.getLsbD_setWidth, getLsbD_bitWord]
  grind

/-- R17: nothing is recorded right after reset. -/
theorem resetWith_fltRead (strap : Bool) (c : Config) : (State.resetWith strap c).fltRead = 0 :=
  BitVec.zero_and

/-- Settles O12: each field of STATUS read off its bits. -/
theorem statusFields : Obligations.StatusFields := by
  intro s
  refine ⟨?_, ?_, ?_, ?_, ?_, ?_, ?_, ?_⟩
  · refine BitVec.eq_of_getLsbD_eq fun i hi => ?_
    simp [getLsbD_status, hi]
  · refine BitVec.eq_of_getLsbD_eq fun i hi => ?_
    have h : 8 + i < 12 := by omega
    simp [getLsbD_status, hi, h]
  · exact getLsbD_status s 12
  · exact getLsbD_status s 13
  · refine BitVec.eq_of_getLsbD_eq fun i hi => ?_
    have h8 : ¬ 14 + i < 8 := by omega
    have h12 : ¬ 14 + i < 12 := by omega
    have h12' : 14 + i ≠ 12 := by omega
    have h13 : 14 + i ≠ 13 := by omega
    simp [getLsbD_status, h8, h12, h12', h13]
  · exact getLsbD_fltRead s 0
  · exact getLsbD_fltRead s 7
  · refine BitVec.eq_of_getLsbD_eq fun i hi => ?_
    have h : 1 + i ≤ 6 := by omega
    simp [getLsbD_fltRead, hi, h]

/-- Settles O58: the reset state is a literal, and the line `fault` shows FLT = 0. -/
theorem resetValues : Obligations.ResetValues := fun strap c =>
  ⟨rfl, rfl, rfl, rfl, by simp [State.faultLine, resetWith_fltRead], rfl⟩

/-- Settles O50: no fault is recorded, the buffer is empty, and no command is in progress. -/
theorem invariantAtReset : Obligations.InvariantAtReset := fun _ _ =>
  ⟨⟨BitVec.zero_and, .inl rfl⟩, ⟨⟨.nil, nofun⟩, nofun, Nat.zero_le _⟩, trivial⟩

/-- R150: a step in reset gives the engine the values of the state right after reset. -/
theorem resetMove_inv (s : State) : s.resetMove.Inv := invariantAtReset s.cfgHsize s.cfg

end Sys2Proof.Machine
end

section
/-! What a command does to the registers that outlive it, said once: it moves quietly, and then waits, completes or
faults (R18, R46, R131). -/

namespace Sys2Proof.Machine

/-! ## Quiet moves -/

/-- `t` comes from `s` by moves that write neither a key register nor a flag, nor the size, the parameters or CMD, and
that keep the message buffer canonical and inside its capacity. -/
structure Quiet (s t : State) : Prop where
  key : sameKey s t
  inst : sameInstance s t
  result : sameResult s t
  buffer : s.BufferInv → t.BufferInv

theorem Quiet.refl (s : State) : Quiet s s := ⟨⟨rfl, rfl⟩, ⟨rfl, rfl, rfl, rfl, rfl⟩, ⟨rfl, rfl⟩, id⟩

theorem Quiet.trans {s t u : State} (h : Quiet s t) (k : Quiet t u) : Quiet s u := by
  obtain ⟨⟨hkey, hkeyv⟩, ⟨hsize, hstrap, hrst, hcfg, hcmd⟩, ⟨herr, hflt⟩, hbuf⟩ := h
  obtain ⟨⟨kkey, kkeyv⟩, ⟨ksize, kstrap, krst, kcfg, kcmd⟩, ⟨kerr, kflt⟩, kbuf⟩ := k
  exact ⟨⟨kkey.trans hkey, kkeyv.trans hkeyv⟩,
    ⟨ksize.trans hsize, kstrap.trans hstrap, krst.trans hrst, kcfg.trans hcfg, kcmd.trans hcmd⟩,
    ⟨kerr.trans herr, kflt.trans hflt⟩, kbuf ∘ hbuf⟩

theorem Quiet.waitAt (p : Phase) (s : State) : Quiet s (s.waitAt p) :=
  ⟨⟨rfl, rfl⟩, ⟨rfl, rfl, rfl, rfl, rfl⟩, ⟨rfl, rfl⟩, id⟩

theorem Quiet.setDin (ts : List DinToken) (s : State) : Quiet s (s.setDin ts) :=
  ⟨⟨rfl, rfl⟩, ⟨rfl, rfl, rfl, rfl, rfl⟩, ⟨rfl, rfl⟩, id⟩

theorem Quiet.wrote (es : List DoutEvent) (s : State) : Quiet s (s.wrote es) :=
  ⟨⟨rfl, rfl⟩, ⟨rfl, rfl, rfl, rfl, rfl⟩, ⟨rfl, rfl⟩, id⟩

theorem Quiet.answered (ws : List Word) (s : State) : Quiet s (s.answered ws) :=
  ⟨⟨rfl, rfl⟩, ⟨rfl, rfl, rfl, rfl, rfl⟩, ⟨rfl, rfl⟩, id⟩

theorem Quiet.startBlock (s : State) : Quiet s s.startBlock :=
  ⟨⟨rfl, rfl⟩, ⟨rfl, rfl, rfl, rfl, rfl⟩, ⟨rfl, rfl⟩, id⟩

theorem Quiet.takeByte (b : Byte) (s : State) : Quiet s (s.takeByte b) :=
  ⟨⟨rfl, rfl⟩, ⟨rfl, rfl, rfl, rfl, rfl⟩, ⟨rfl, rfl⟩, id⟩

theorem Quiet.markEnd (s : State) : Quiet s s.markEnd :=
  ⟨⟨rfl, rfl⟩, ⟨rfl, rfl, rfl, rfl, rfl⟩, ⟨rfl, rfl⟩, id⟩

theorem Quiet.transform (m : Mode) (s : State) : Quiet s (s.transform m) :=
  ⟨⟨rfl, rfl⟩, ⟨rfl, rfl, rfl, rfl, rfl⟩, ⟨rfl, rfl⟩, id⟩

theorem Quiet.computeDigest (s : State) : Quiet s s.computeDigest :=
  ⟨⟨rfl, rfl⟩, ⟨rfl, rfl, rfl, rfl, rfl⟩, ⟨rfl, rfl⟩, id⟩

theorem Quiet.startMessage (s : State) : Quiet s s.startMessage :=
  ⟨⟨rfl, rfl⟩, ⟨rfl, rfl, rfl, rfl, rfl⟩, ⟨rfl, rfl⟩, fun ⟨hwf, haddr, _⟩ => ⟨hwf, haddr, Nat.zero_le _⟩⟩

/-- R100, R130: a byte stored while the buffer is not full stays inside the capacity. -/
theorem Quiet.storeByte (b : Byte) {s : State} (hfit : s.len < s.cfg.msgMax) : Quiet s (s.storeByte b) :=
  ⟨⟨rfl, rfl⟩, ⟨rfl, rfl, rfl, rfl, rfl⟩, ⟨rfl, rfl⟩, fun ⟨hwf, haddr, _⟩ =>
    ⟨memWrite_wf [b] hwf, fun c hc => (mem_memPut hc).elim (fun h => h.trans_lt hfit) (haddr c), hfit⟩⟩

/-! ## How a command leaves the machine -/

/-- A command that started or went on in `s` has ended in `t`, its end recorded, or waits there, nothing recorded. -/
def EndsOrWaits (s t : State) : Prop :=
  t.phase ≠ .idle ∧ sameResult s t ∨ t.phase = .idle ∧ RecordsEnd s t

/-- What every command but STAT and SETKEY does: `Quiet` but for the flags its end writes. -/
structure Settles (s t : State) : Prop where
  key : sameKey s t
  inst : sameInstance s t
  ending : EndsOrWaits s t
  buffer : s.BufferInv → t.BufferInv

theorem Settles.of_waitAt {p : Phase} (s : State) (hp : p ≠ .idle) : Settles s (s.waitAt p) :=
  ⟨⟨rfl, rfl⟩, ⟨rfl, rfl, rfl, rfl, rfl⟩, .inl ⟨hp, rfl, rfl⟩, id⟩

theorem Settles.of_raise (f : Fault) (s : State) : Settles s (s.raise f) :=
  ⟨⟨rfl, rfl⟩, ⟨rfl, rfl, rfl, rfl, rfl⟩, .inr ⟨rfl, .inr ⟨f, rfl, rfl⟩⟩, id⟩

theorem Settles.of_complete (s : State) : Settles s s.complete :=
  ⟨⟨rfl, rfl⟩, ⟨rfl, rfl, rfl, rfl, rfl⟩, .inr ⟨rfl, .inl ⟨rfl, rfl⟩⟩, id⟩

theorem Settles.freeWork {s t : State} (u : StreamUnit) (h : Settles s t) : Settles s (t.freeWork u) := by
  obtain ⟨hkey, hinst, hend, hbuf⟩ := h
  cases u <;> exact ⟨hkey, hinst, hend, hbuf⟩

theorem EndsOrWaits.of_sameResult {s u t : State} (hu : sameResult s u) (h : EndsOrWaits u t) : EndsOrWaits s t := by
  obtain ⟨herr, hflt⟩ := hu
  simpa only [EndsOrWaits, RecordsEnd, sameResult, herr, hflt] using h

theorem Settles.of_quiet {s u t : State} (hu : Quiet s u) (h : Settles u t) : Settles s t := by
  obtain ⟨⟨hkey, hkeyv⟩, ⟨hsize, hstrap, hrst, hcfg, hcmd⟩, hres, hbuf⟩ := hu
  obtain ⟨⟨kkey, kkeyv⟩, ⟨ksize, kstrap, krst, kcfg, kcmd⟩, kend, kbuf⟩ := h
  exact ⟨⟨kkey.trans hkey, kkeyv.trans hkeyv⟩,
    ⟨ksize.trans hsize, kstrap.trans hstrap, krst.trans hrst, kcfg.trans hcfg, kcmd.trans hcmd⟩,
    .of_sameResult hres kend, kbuf ∘ hbuf⟩

/-! ## The ends of a stream command -/

theorem release_settles (u : StreamUnit) (f : Fault) (s : State) : Settles s (s.release u f) := by
  rw [release_eq]
  cases s.sinkAt 0 with
  | none => exact .of_waitAt s (by nofun)
  | some a => exact (Settles.of_quiet (.wrote _ s) (.of_raise f _)).freeWork u

theorem finish_settles (u : StreamUnit) (s : State) : Settles s (s.finish u) := by
  rw [finish_eq]
  cases s.sinkAt 0 with
  | none => exact .of_waitAt s (by nofun)
  | some a => cases a with
    | ok => exact (Settles.of_quiet (.wrote _ s) (.of_complete _)).freeWork u
    | err => exact (Settles.of_quiet (.wrote _ s) (.of_raise .streamOut _)).freeWork u

theorem drain_settles (u : StreamUnit) (f : Fault) (s : State) : Settles s (s.drain u f) := by
  unfold State.drain
  rcases drainTokens_spec u f s.din s with ⟨_, _, h⟩ | ⟨_, rest, _, h⟩
  · exact h ▸ .of_quiet (.setDin [] s) (.of_waitAt _ (by nofun))
  · exact h ▸ .of_quiet (.setDin rest s) (release_settles u f _)

/-! ## CPROC -/

/-- All that `sendBytes` can do, as an equation of the pair it answers. -/
theorem sendBytes_eq_wrote (bs : List Byte) (s : State) : ∃ r es, sendBytes bs s = (r, s.wrote es) ∧ SentBy bs es r :=
  have ⟨es, hes, hby⟩ := sendBytes_spec bs s
  ⟨_, es, Prod.ext rfl hes, hby⟩

/-- What `WriteBlock()` does: a quiet move if the input goes on, else what a command does. -/
def Flow.Settles (s : State) : Flow → Prop
  | .more t => Quiet s t
  | .stop t => Machine.Settles s t

theorem writeBlock_settles (m : Mode) (k : Nat) (s : State) : (writeBlock m k s).Settles s := by
  obtain ⟨r, es, hsend, -⟩ := sendBytes_eq_wrote ((storeHalves (s.cipher.a, s.cipher.b)).drop k) s
  rw [writeBlock, hsend]
  have hw : Quiet s (s.wrote es) := .wrote es s
  cases r with
  | done =>
    by_cases he : s.cipher.eos = true
    · simpa [he, Flow.Settles] using Settles.of_quiet hw (finish_settles .cipher _)
    · simpa [he, Flow.Settles] using hw.trans (.startBlock _)
  | refused =>
    by_cases he : s.cipher.eos = true
    · simpa [he, Flow.Settles] using Settles.of_quiet hw (release_settles .cipher .streamOut _)
    · simpa [he, Flow.Settles] using Settles.of_quiet hw (drain_settles .cipher .streamOut _)
  | waiting left => exact .of_quiet hw (.of_waitAt _ (by nofun))

theorem readTokens_settles (m : Mode) (ts : List DinToken) (s : State) : Settles s (readTokens m ts s) := by
  induction ts generalizing s with
  | nil => exact .of_quiet (.setDin [] s) (.of_waitAt _ (by nofun))
  | cons t ts ih =>
    have hd : Quiet s (s.setDin ts) := .setDin ts s
    cases t with
    | byte b =>
      have hb : Quiet s ((s.setDin ts).takeByte b) := hd.trans (.takeByte b _)
      have hw := writeBlock_settles m 0 (((s.setDin ts).takeByte b).transform m)
      rw [readTokens]
      split
      · exact .of_quiet hb (ih _)
      · split <;> rename_i u hu <;> rw [hu] at hw
        · exact .of_quiet ((hb.trans (.transform m _)).trans hw) (ih u)
        · exact .of_quiet (hb.trans (.transform m _)) hw
    | endTok =>
      have he : Quiet s (s.setDin ts).markEnd := hd.trans (.markEnd _)
      have hw := writeBlock_settles m 0 ((s.setDin ts).markEnd.transform m)
      rw [readTokens]
      split
      · exact .of_quiet he (finish_settles .cipher _)
      · split <;> rename_i u hu
        · exact absurd hu (writeBlock_eos_ne_more rfl u)
        · rw [hu] at hw
          exact .of_quiet (he.trans (.transform m _)) hw
    | errTok => exact .of_quiet hd (release_settles .cipher .streamIn _)

theorem writeOn_settles (m : Mode) (k : Nat) (s : State) : Settles s (s.writeOn m k) := by
  have hw := writeBlock_settles m k s
  unfold State.writeOn
  split <;> rename_i u hu <;> rw [hu] at hw
  · exact .of_quiet hw (readTokens_settles m u.din u)
  · exact hw

theorem process_settles (m : Mode) (s : State) : Settles s (s.process m) := by
  unfold State.process
  split
  · exact .of_quiet (.startBlock s) (readTokens_settles m _ _)
  · exact .of_raise .keyUnset s

/-! ## HDIGEST -/

theorem sendDigest_settles (k : Nat) (s : State) : Settles s (s.sendDigest k) := by
  obtain ⟨r, es, hsend, -⟩ := sendBytes_eq_wrote ((digestBytes s.hsize s.hash.h).drop k) s
  rw [State.sendDigest, hsend]
  refine .of_quiet (.wrote es s) ?_
  cases r with
  | done => exact finish_settles .hash _
  | refused => exact release_settles .hash .streamOut _
  | waiting left => exact .of_waitAt _ (by nofun)

theorem copyTokens_settles (ts : List DinToken) (s : State) : Settles s (copyTokens ts s) := by
  induction ts generalizing s with
  | nil => exact .of_quiet (.setDin [] s) (.of_waitAt _ (by nofun))
  | cons t ts ih =>
    have hd : Quiet s (s.setDin ts) := .setDin ts s
    cases t with
    | byte b =>
      rw [copyTokens]
      split
      · exact .of_quiet hd (drain_settles .hash .msgOverflow _)
      · rename_i hfit
        exact .of_quiet (.storeByte b (Nat.lt_of_not_le hfit)) (ih _)
    | endTok => exact .of_quiet (hd.trans (.computeDigest _)) (sendDigest_settles 0 _)
    | errTok => exact .of_quiet hd (release_settles .hash .streamIn _)

/-! ## The commands on RSP -/

theorem sendKey_settles (j : Nat) (s : State) : Settles s (s.sendKey j) := by
  obtain ⟨pre, post, -, hsend, -⟩ := sendRsp_spec (s.key.toList.drop j) s
  rw [State.sendKey, hsend]
  refine .of_quiet (.answered pre s) ?_
  cases post.length with
  | zero => exact .of_complete _
  | succ n => exact .of_waitAt _ (by nofun)

/-- R117: STAT records nothing, not even its end. -/
theorem sendStatus_quiet (s : State) : Quiet s s.sendStatus := by
  unfold State.sendStatus
  rw [rspWrite_eq]
  split <;> rename_i h <;> split at h
  · exact .waitAt .stat s
  · cases h
  · cases h
  · obtain rfl := Option.some.inj h
    exact (Quiet.answered _ s).trans (.waitAt .idle _)

/-! ## Every command, from its start and from a wait -/

/-- All that a command can do: STAT moves quietly, SETKEY loads the key and completes, every other command settles. -/
theorem exec_cases {i : Instr} {s t : State} (h : exec i s = .next t) :
    (i = .stat ∧ Quiet s t) ∨ (∃ k, i = .setkey k ∧ t = (s.loadKey k).complete) ∨
      (i ≠ .stat ∧ (∀ k, i ≠ .setkey k) ∧ Settles s t) := by
  cases i with
  | stat => cases h; exact .inl ⟨rfl, sendStatus_quiet s⟩
  | setkey k => cases h; exact .inr (.inl ⟨k, rfl, rfl⟩)
  | getkey =>
    refine .inr (.inr ⟨nofun, nofun, ?_⟩)
    simp only [exec, execGetkey] at h
    split at h <;> cases h
    · exact sendKey_settles 0 s
    · exact .of_raise .keyUnset s
  | cprocUnset => cases h; exact .inr (.inr ⟨nofun, nofun, .of_raise .cfgMode s⟩)
  | cprocEnc => cases h; exact .inr (.inr ⟨nofun, nofun, process_settles .enc s⟩)
  | cprocDec => cases h; exact .inr (.inr ⟨nofun, nofun, process_settles .dec s⟩)
  | cprocBad => cases h; exact .inr (.inr ⟨nofun, nofun, .of_raise .cfgMode s⟩)
  | hdigest =>
    cases h
    exact .inr (.inr ⟨nofun, nofun, .of_quiet (.startMessage s) (copyTokens_settles _ _)⟩)

/-- All that a command in progress can do when it goes on; a SETKEY waiting for payload goes on by the fetch. -/
theorem resume_cases {s : State} (hidle : s.phase ≠ .idle) (hpay : ∀ got, s.phase ≠ .payload got) :
    (s.phase = .stat ∧ Quiet s s.resume) ∨ (s.phase ≠ .stat ∧ Settles s s.resume) := by
  rw [State.resume]
  cases hp : s.phase with
  | idle => exact absurd hp hidle
  | payload got => exact absurd hp (hpay got)
  | stat => exact .inl ⟨rfl, sendStatus_quiet s⟩
  | getkey j => exact .inr ⟨nofun, sendKey_settles j s⟩
  | read m => exact .inr ⟨nofun, readTokens_settles m _ s⟩
  | write m k => exact .inr ⟨nofun, writeOn_settles m k s⟩
  | copy => exact .inr ⟨nofun, copyTokens_settles _ s⟩
  | digest k => exact .inr ⟨nofun, sendDigest_settles k s⟩
  | lastEnd u => exact .inr ⟨nofun, finish_settles u s⟩
  | drain u f => exact .inr ⟨nofun, drain_settles u f s⟩
  | release u f => exact .inr ⟨nofun, release_settles u f s⟩

end Sys2Proof.Machine
end

section
/-! One turn of the command loop out of reset (R54, R76, R115, R132), all its cases said once. -/

namespace Sys2Proof.Machine

/-- All that a step out of reset can do. -/
inductive Turn (s : State) : State → Prop
  /-- `CmdRead()` waits at command position -/
  | noWord (hp : s.phase = .idle) (hd : decode s.cmd = .empty) : Turn s s
  /-- an illegal word is taken -/
  | illegal (hp : s.phase = .idle) {why rest} (hd : decode s.cmd = .illegal why rest) :
      Turn s ((s.setCmd rest).raise .illegalCmd)
  /-- SETKEY takes the payload words offered, fewer than it still needs -/
  | payload {got} (hp : s.phase = .idle ∨ ∃ before, s.phase = .payload before) (hlen : got.length < 8) :
      Turn s ((s.setCmd []).waitAt (.payload got))
  /-- a whole command is taken and starts -/
  | starts {t} (i : Instr) (rest : List Word) (hp : s.phase = .idle) (hd : decode s.cmd = .instr i rest)
      (he : exec i (s.setCmd rest) = .next t) : Turn s t
  /-- SETKEY takes the last payload word -/
  | setkey {got key rest} (hp : s.phase = .payload got) (hk : takePayload (got ++ s.cmd) = some (key, rest)) :
      Turn s (((s.setCmd rest).waitAt .idle).loadKey key).complete
  /-- the command in progress goes on -/
  | resumes (hidle : s.phase ≠ .idle) (hpay : ∀ got, s.phase ≠ .payload got) : Turn s s.resume

theorem length_lt_of_takePayload_eq_none : ∀ {ws : List Word}, takePayload ws = none → ws.length < 8
  | [], _ | [_], _ | [_, _], _ | [_, _, _], _ | [_, _, _, _], _ | [_, _, _, _, _], _ | [_, _, _, _, _, _], _
  | [_, _, _, _, _, _, _], _ => by simp
  | _ :: _ :: _ :: _ :: _ :: _ :: _ :: _ :: _, h => nomatch h

theorem length_lt_of_decode_eq_short {ws got : List Word} (h : decode ws = .short got) : got.length < 8 := by
  unfold decode at h
  split at h
  · cases h
  · split at h
    · cases h
    · cases h
    · split at h <;> cases h
      exact length_lt_of_takePayload_eq_none ‹_›

theorem fetch_of_resuming {s : State} (hr : s.rst = false) (hidle : s.phase ≠ .idle)
    (hpay : ∀ got, s.phase ≠ .payload got) : s.fetch = .done s.resume := by
  unfold State.fetch
  cases hp : s.phase <;> simp_all

theorem fetch_at_idle {s : State} (hr : s.rst = false) (hp : s.phase = .idle) : s.fetch = s.fetchCommand := by
  simp [State.fetch, hr, hp]

theorem fetch_at_payload {s : State} {got : List Word} (hr : s.rst = false) (hp : s.phase = .payload got) :
    s.fetch = s.fetchPayload got := by
  simp [State.fetch, hr, hp]

/-- A whole command at command position runs once its words are taken. -/
theorem fetch_of_instr {s : State} {i : Instr} {rest : List Word} (hr : s.rst = false) (hp : s.phase = .idle)
    (hd : decode s.cmd = .instr i rest) : s.fetch = .run i (s.setCmd rest) := by
  rw [fetch_at_idle hr hp, State.fetchCommand, hd]

/-- SETKEY runs once its eighth payload word is offered. -/
theorem fetch_of_payload {s : State} {got rest : List Word} {key : KeyWords} (hr : s.rst = false)
    (hp : s.phase = .payload got) (hk : takePayload (got ++ s.cmd) = some (key, rest)) :
    s.fetch = .run (.setkey key) ((s.setCmd rest).waitAt .idle) := by
  rw [fetch_at_payload hr hp, State.fetchPayload, hk]

theorem turn_of_step_at_idle {s t : State} (hr : s.rst = false) (hp : s.phase = .idle) (h : step s = .next t) :
    Turn s t := by
  rw [step, fetch_at_idle hr hp, State.fetchCommand] at h
  cases hd : decode s.cmd with
  | empty => rw [hd] at h; cases h; exact .noWord hp hd
  | illegal why rest => rw [hd] at h; cases h; exact .illegal hp hd
  | short got => rw [hd] at h; cases h; exact .payload (.inl hp) (length_lt_of_decode_eq_short hd)
  | instr i rest => rw [hd] at h; exact .starts i rest hp hd h

theorem turn_of_step_at_payload {s t : State} {got : List Word} (hr : s.rst = false) (hp : s.phase = .payload got)
    (h : step s = .next t) : Turn s t := by
  rw [step, fetch_at_payload hr hp, State.fetchPayload] at h
  cases hk : takePayload (got ++ s.cmd) with
  | none => rw [hk] at h; cases h; exact .payload (.inr ⟨got, hp⟩) (length_lt_of_takePayload_eq_none hk)
  | some p => rw [hk] at h; cases h; exact .setkey hp hk

theorem turn_of_step {s t : State} (hr : s.rst = false) (h : step s = .next t) : Turn s t := by
  by_cases hidle : s.phase = .idle
  · exact turn_of_step_at_idle hr hidle h
  by_cases hpay : ∃ got, s.phase = .payload got
  · obtain ⟨got, hp⟩ := hpay
    exact turn_of_step_at_payload hr hp h
  · have hpay' : ∀ got, s.phase ≠ .payload got := fun got hp => hpay ⟨got, hp⟩
    rw [step, fetch_of_resuming hr hidle hpay'] at h
    cases h
    exact .resumes hidle hpay'

/-- R150: a step in reset is the reset move. -/
theorem step_in_reset {s t : State} (hr : s.rst = true) (h : step s = .next t) : t = s.resetMove := by
  rw [step, State.fetch, if_pos hr] at h
  cases h
  rfl

end Sys2Proof.Machine
end

section
/-! Where a command waits (R46): the key is valid where it is used, the counters are in range, and a release belongs to
a fault that has one. Then the invariant of the machine. -/

namespace Sys2Proof.Machine

/-! ## The phase a command is left in -/

theorem phaseInv_of_idle {s : State} (h : s.phase = .idle) : s.PhaseInv := by
  simp [State.PhaseInv, h]

/-- The faults whose entry releases the channels (R127, R128, R130). -/
def HasRelease (u : StreamUnit) (f : Fault) : Prop :=
  f = .streamIn ∨ f = .streamOut ∨ u = .hash ∧ f = .msgOverflow

/-- The faults whose entry discards the rest of the packet (R128, R130). -/
def HasDrain (u : StreamUnit) (f : Fault) : Prop :=
  u = .cipher ∧ f = .streamOut ∨ u = .hash ∧ f = .msgOverflow

theorem HasDrain.hasRelease {u : StreamUnit} {f : Fault} (h : HasDrain u f) : HasRelease u f :=
  .inr (h.imp_left And.right)

theorem release_phaseInv {u : StreamUnit} {f : Fault} (hf : HasRelease u f) (s : State) :
    (s.release u f).PhaseInv := by
  rw [release_eq]
  cases s.sinkAt 0 with
  | none => exact hf
  | some a => exact phaseInv_of_idle (by simp)

theorem finish_phaseInv (u : StreamUnit) (s : State) : (s.finish u).PhaseInv := by
  rw [finish_eq]
  cases s.sinkAt 0 with
  | none => trivial
  | some a => cases a <;> exact phaseInv_of_idle (by simp)

theorem drain_phaseInv {u : StreamUnit} {f : Fault} (hf : HasDrain u f) (s : State) : (s.drain u f).PhaseInv := by
  unfold State.drain
  rcases drainTokens_spec u f s.din s with ⟨_, _, h⟩ | ⟨_, rest, _, h⟩
  · exact h ▸ hf
  · exact h ▸ release_phaseInv hf.hasRelease _

/-- A run of writes that waits still owes a byte. -/
theorem SentBy.left_pos {bs : List Byte} {es : List DoutEvent} {left : Nat} (h : SentBy bs es (.waiting left)) :
    0 < left := by
  obtain ⟨_, post, _, hpost, rfl, _⟩ := h
  exact List.length_pos_iff.2 hpost

/-- What `WriteBlock()` leaves: an empty block to be read into, or a command that waits or has ended. -/
def Flow.PhaseInv (s : State) : Flow → Prop
  | .more t => t.keyv = s.keyv ∧ t.cipher.icnt = 0
  | .stop t => t.PhaseInv

theorem writeBlock_phaseInv (m : Mode) (k : Nat) {s : State} (hkey : s.keyv = true) :
    (writeBlock m k s).PhaseInv s := by
  obtain ⟨r, es, hsend, hby⟩ := sendBytes_eq_wrote ((storeHalves (s.cipher.a, s.cipher.b)).drop k) s
  rw [writeBlock, hsend]
  cases r with
  | done =>
    by_cases he : s.cipher.eos = true
    · simpa [he, Flow.PhaseInv] using finish_phaseInv .cipher _
    · simp [he, Flow.PhaseInv]
  | refused =>
    by_cases he : s.cipher.eos = true
    · simpa [he, Flow.PhaseInv] using release_phaseInv (.inr (.inl rfl)) _
    · simpa [he, Flow.PhaseInv] using drain_phaseInv (.inl ⟨rfl, rfl⟩) _
  | waiting left => exact ⟨hkey, Nat.sub_lt (by decide) hby.left_pos⟩

theorem readTokens_phaseInv (m : Mode) (ts : List DinToken) {s : State} (hkey : s.keyv = true)
    (hcnt : s.cipher.icnt.val < 8) : (readTokens m ts s).PhaseInv := by
  induction ts generalizing s with
  | nil => exact ⟨hkey, hcnt⟩
  | cons t ts ih =>
    cases t with
    | byte b =>
      have hw := writeBlock_phaseInv m 0 (s := ((s.setDin ts).takeByte b).transform m) hkey
      rw [readTokens]
      split
      · exact ih hkey ‹_›
      · split <;> rename_i u hu <;> rw [hu] at hw
        · obtain ⟨hukey, hucnt⟩ := hw
          exact ih (hukey.trans hkey) (by simp [hucnt])
        · exact hw
    | endTok =>
      have hw := writeBlock_phaseInv m 0 (s := (s.setDin ts).markEnd.transform m) hkey
      rw [readTokens]
      split
      · exact finish_phaseInv .cipher _
      · split <;> rename_i u hu
        · exact absurd hu (writeBlock_eos_ne_more rfl u)
        · rwa [hu] at hw
    | errTok => exact release_phaseInv (.inl rfl) _

theorem writeOn_phaseInv (m : Mode) (k : Nat) {s : State} (hkey : s.keyv = true) : (s.writeOn m k).PhaseInv := by
  have hw := writeBlock_phaseInv m k hkey
  unfold State.writeOn
  split <;> rename_i u hu <;> rw [hu] at hw
  · obtain ⟨hukey, hucnt⟩ := hw
    exact readTokens_phaseInv m u.din (hukey.trans hkey) (by simp [hucnt])
  · exact hw

theorem process_phaseInv (m : Mode) (s : State) : (s.process m).PhaseInv := by
  unfold State.process
  split
  · exact readTokens_phaseInv m _ ‹_› (by simp)
  · exact phaseInv_of_idle rfl

theorem digestLength_pos (hs : HSize) : 0 < digestLength hs := by
  cases hs <;> decide

theorem sendDigest_phaseInv (k : Nat) (s : State) : (s.sendDigest k).PhaseInv := by
  obtain ⟨r, es, hsend, hby⟩ := sendBytes_eq_wrote ((digestBytes s.hsize s.hash.h).drop k) s
  rw [State.sendDigest, hsend]
  cases r with
  | done => exact finish_phaseInv .hash _
  | refused => exact release_phaseInv (.inr (.inl rfl)) _
  | waiting left => exact Nat.sub_lt (digestLength_pos _) hby.left_pos

theorem copyTokens_phaseInv (ts : List DinToken) (s : State) : (copyTokens ts s).PhaseInv := by
  induction ts generalizing s with
  | nil => trivial
  | cons t ts ih =>
    cases t with
    | byte b =>
      rw [copyTokens]
      split
      · exact drain_phaseInv (.inr ⟨rfl, rfl⟩) _
      · exact ih _
    | endTok => exact sendDigest_phaseInv 0 _
    | errTok => exact release_phaseInv (.inl rfl) _

theorem sendKey_phaseInv (j : Nat) {s : State} (hkey : s.keyv = true) : (s.sendKey j).PhaseInv := by
  obtain ⟨pre, post, -, hsend, -⟩ := sendRsp_spec (s.key.toList.drop j) s
  rw [State.sendKey, hsend]
  cases post.length with
  | zero => exact phaseInv_of_idle rfl
  | succ n => exact ⟨hkey, Nat.sub_lt (by decide) n.succ_pos⟩

theorem sendStatus_phaseInv (s : State) : s.sendStatus.PhaseInv := by
  unfold State.sendStatus
  split <;> trivial

theorem exec_phaseInv {i : Instr} {s t : State} (h : exec i s = .next t) : t.PhaseInv := by
  cases i with
  | stat => cases h; exact sendStatus_phaseInv s
  | setkey k => cases h; exact phaseInv_of_idle rfl
  | getkey =>
    simp only [exec, execGetkey] at h
    split at h <;> cases h
    · exact sendKey_phaseInv 0 ‹_›
    · exact phaseInv_of_idle rfl
  | cprocUnset => cases h; exact phaseInv_of_idle rfl
  | cprocEnc => cases h; exact process_phaseInv .enc s
  | cprocDec => cases h; exact process_phaseInv .dec s
  | cprocBad => cases h; exact phaseInv_of_idle rfl
  | hdigest => cases h; exact copyTokens_phaseInv _ _

theorem resume_phaseInv {s : State} (h : s.PhaseInv) : s.resume.PhaseInv := by
  have hp := h
  unfold State.PhaseInv at hp
  unfold State.resume
  cases hphase : s.phase <;> rw [hphase] at hp
  case idle => exact h
  case payload => exact h
  case stat => exact sendStatus_phaseInv s
  case getkey j => exact sendKey_phaseInv j hp.1
  case read m => exact readTokens_phaseInv m _ hp.1 hp.2
  case write m k => exact writeOn_phaseInv m k hp.1
  case copy => exact copyTokens_phaseInv _ s
  case digest k => exact sendDigest_phaseInv k s
  case lastEnd u => exact finish_phaseInv u s
  case drain u f => exact drain_phaseInv hp s
  case release u f => exact release_phaseInv hp s

/-! ## The flags -/

theorem bit_and_hardwired (f : Fault) : f.bit &&& 0x81 = 0 := by cases f <;> decide

theorem State.FaultInv.of_sameResult {s t : State} (h : s.FaultInv) (hres : sameResult s t) : t.FaultInv := by
  obtain ⟨herr, hflt⟩ := hres
  rwa [State.FaultInv, herr, hflt]

/-- R131: fault entry records its code with its bit, and no bit is ever cleared. -/
theorem State.FaultInv.of_recordsEnd {s t : State} (h : s.FaultInv) (hrec : RecordsEnd s t) : t.FaultInv := by
  obtain ⟨hwired, -⟩ := h
  rcases hrec with ⟨herr, hflt⟩ | ⟨f, herr, hflt⟩
  · exact ⟨by rw [hflt, hwired], .inl herr⟩
  · refine ⟨?_, .inr ⟨f, herr, by rw [hflt]; grind⟩⟩
    rw [hflt, BitVec.and_or_distrib_right, hwired, bit_and_hardwired, BitVec.or_self]

theorem State.FaultInv.of_endsOrWaits {s t : State} (h : s.FaultInv) (hend : EndsOrWaits s t) : t.FaultInv :=
  hend.elim (fun hwait => h.of_sameResult hwait.2) (fun hdone => h.of_recordsEnd hdone.2)

/-! ## The invariant -/

theorem Quiet.faultInv {s t : State} (h : Quiet s t) (hs : s.FaultInv) : t.FaultInv := hs.of_sameResult h.result

theorem Settles.faultInv {s t : State} (h : Settles s t) (hs : s.FaultInv) : t.FaultInv := hs.of_endsOrWaits h.ending

/-- What a started command keeps of the invariant; its phase it sets itself. -/
theorem exec_inv {i : Instr} {s t : State} (hfault : s.FaultInv) (hbuf : s.BufferInv) (h : exec i s = .next t) :
    t.Inv := by
  have hphase : t.PhaseInv := exec_phaseInv h
  rcases exec_cases h with ⟨-, hq⟩ | ⟨k, -, rfl⟩ | ⟨-, -, hs⟩
  · exact ⟨hq.faultInv hfault, hq.buffer hbuf, hphase⟩
  · exact ⟨hfault.of_recordsEnd (.inl ⟨rfl, rfl⟩), hbuf, hphase⟩
  · exact ⟨hs.faultInv hfault, hs.buffer hbuf, hphase⟩

theorem resume_inv {s : State} (hinv : s.Inv) (hidle : s.phase ≠ .idle) (hpay : ∀ got, s.phase ≠ .payload got) :
    s.resume.Inv := by
  obtain ⟨hfault, hbuf, hphase⟩ := hinv
  rcases resume_cases hidle hpay with ⟨-, hq⟩ | ⟨-, hs⟩
  · exact ⟨hq.faultInv hfault, hq.buffer hbuf, resume_phaseInv hphase⟩
  · exact ⟨hs.faultInv hfault, hs.buffer hbuf, resume_phaseInv hphase⟩

theorem turn_inv {s t : State} (hinv : s.Inv) (h : Turn s t) : t.Inv := by
  have ⟨hfault, hbuf, _⟩ := hinv
  cases h with
  | noWord => exact hinv
  | illegal => exact ⟨hfault.of_recordsEnd (.inr ⟨.illegalCmd, rfl, rfl⟩), hbuf, phaseInv_of_idle rfl⟩
  | payload _ hlen => exact ⟨hfault, hbuf, hlen⟩
  | starts i rest _ _ he => exact exec_inv (s := s.setCmd rest) hfault hbuf he
  | setkey => exact ⟨hfault.of_recordsEnd (.inl ⟨rfl, rfl⟩), hbuf, phaseInv_of_idle rfl⟩
  | resumes hidle hpay => exact resume_inv hinv hidle hpay

/-- Settles O51: a step in reset gives the values of reset, and every case of a turn of the command loop keeps the
flags, the buffer and what belongs to the phase it ends in. -/
theorem stepKeepsInvariant : Obligations.StepKeepsInvariant := by
  intro s t hinv h
  by_cases hr : s.rst = true
  · exact step_in_reset hr h ▸ resetMove_inv s
  · exact turn_inv hinv (turn_of_step (Bool.eq_false_of_not_eq_true hr) h)

end Sys2Proof.Machine
end

section
/-! What a step leaves of the key registers, the size and the flags (R12, R17, R18, R20, R131). -/

namespace Sys2Proof.Machine

/-! ## How commands end -/

theorem exec_endsOrWaits {i : Instr} {s t : State} (hstat : i ≠ .stat) (h : exec i s = .next t) :
    EndsOrWaits s t := by
  rcases exec_cases h with ⟨hi, -⟩ | ⟨k, -, rfl⟩ | ⟨-, -, hs⟩
  · exact absurd hi hstat
  · exact .inr ⟨rfl, .inl ⟨rfl, rfl⟩⟩
  · exact hs.ending

theorem exec_stat_sameResult {s t : State} (h : exec .stat s = .next t) : sameResult s t := by
  cases h
  exact (sendStatus_quiet s).result

theorem EndsOrWaits.sameResult_of_waiting {s t : State} (h : EndsOrWaits s t) (hp : t.phase ≠ .idle) :
    sameResult s t :=
  h.elim And.right (fun hdone => absurd hdone.1 hp)

theorem EndsOrWaits.recordsEnd_of_idle {s t : State} (h : EndsOrWaits s t) (hp : t.phase = .idle) :
    RecordsEnd s t :=
  h.elim (fun hwait => absurd hp hwait.1) And.right

/-- Nothing can be recorded in the next turn: no word is offered, or STAT runs, from its start or from its wait. -/
def State.Silent (s : State) : Prop :=
  s.phase = .stat ∨ s.phase = .idle ∧ (decode s.cmd = .empty ∨ ∃ rest, decode s.cmd = .instr .stat rest)

theorem turn_sameResult {s t : State} (hs : s.Silent) (h : Turn s t) : sameResult s t := by
  cases h with
  | noWord => exact ⟨rfl, rfl⟩
  | illegal hp hd => simp [State.Silent, hp, hd] at hs
  | payload => exact ⟨rfl, rfl⟩
  | starts i rest hp hd he =>
    obtain rfl : i = .stat := by simpa [State.Silent, hp, hd] using hs
    exact exec_stat_sameResult (s := s.setCmd rest) he
  | setkey hp => simp [State.Silent, hp] at hs
  | resumes hidle hpay =>
    have hstat : s.phase = .stat := by simpa [State.Silent, hidle] using hs
    rcases resume_cases hidle hpay with ⟨-, hq⟩ | ⟨hother, -⟩
    · exact hq.result
    · exact absurd hstat hother

theorem turn_endsOrWaits {s t : State} (hs : ¬ s.Silent) (h : Turn s t) : EndsOrWaits s t := by
  cases h with
  | noWord hp hd => simp [State.Silent, hp, hd] at hs
  | illegal => exact .inr ⟨rfl, .inr ⟨.illegalCmd, rfl, rfl⟩⟩
  | payload => exact .inl ⟨by simp, rfl, rfl⟩
  | starts i rest hp hd he =>
    have hstat : i ≠ .stat := fun hi => hs (.inr ⟨hp, .inr ⟨rest, hi ▸ hd⟩⟩)
    exact (exec_endsOrWaits hstat he).of_sameResult ⟨rfl, rfl⟩
  | setkey => exact .inr ⟨rfl, .inl ⟨rfl, rfl⟩⟩
  | resumes hidle hpay =>
    rcases resume_cases hidle hpay with ⟨hstat, -⟩ | ⟨-, hsettles⟩
    · exact absurd (.inl hstat) hs
    · exact hsettles.ending

/-- Settles O19: a turn records nothing, or a command ends in it, with LASTERR = 0 or with one fault recorded. -/
theorem faultBitsAreSticky : Obligations.FaultBitsAreSticky := by
  intro s t hr h
  by_cases hs : s.Silent
  · exact .inl (turn_sameResult hs (turn_of_step hr h)).2
  · rcases turn_endsOrWaits hs (turn_of_step hr h) with ⟨-, -, hflt⟩ | ⟨hp, ⟨-, hflt⟩ | ⟨f, herr, hflt⟩⟩
    · exact .inl hflt
    · exact .inl hflt
    · exact .inr ⟨f, hflt, herr, hp⟩

/-- Settles O56: a started command, and a turn of the command loop, either records nothing or ends a command. -/
theorem lasterrTellsHowItEnded : Obligations.LasterrTellsHowItEnded := by
  refine ⟨fun i s t h => ⟨?_, fun hstat hp => (exec_endsOrWaits hstat h).recordsEnd_of_idle hp⟩, fun s t hr h => ?_⟩
  · intro hsilent
    by_cases hstat : i = .stat
    · subst hstat
      exact exec_stat_sameResult h
    · exact (exec_endsOrWaits hstat h).sameResult_of_waiting (hsilent.resolve_left hstat)
  · have hturn : Turn s t := turn_of_step hr h
    refine ⟨fun hp => ?_, fun hstat => ?_, fun hidle hstat hp => ?_, fun hidle hword hstat hp => ?_⟩
    · by_cases hs : s.Silent
      · exact turn_sameResult hs hturn
      · exact (turn_endsOrWaits hs hturn).sameResult_of_waiting hp
    · exact turn_sameResult (hstat.imp_right fun ⟨hidle, hd⟩ => ⟨hidle, .inr hd⟩) hturn
    · have hs : ¬ s.Silent := by simp [State.Silent, hidle, hstat]
      exact (turn_endsOrWaits hs hturn).recordsEnd_of_idle hp
    · have hs : ¬ s.Silent := by simp [State.Silent, hidle, hword, hstat]
      exact (turn_endsOrWaits hs hturn).recordsEnd_of_idle hp

/-! ## The key registers and the size -/

theorem exec_sameKey {i : Instr} {s t : State} (hset : ∀ k, i ≠ .setkey k) (h : exec i s = .next t) :
    sameKey s t := by
  rcases exec_cases h with ⟨-, hq⟩ | ⟨k, hi, -⟩ | ⟨-, -, hs⟩
  · exact hq.key
  · exact absurd hi (hset k)
  · exact hs.key

theorem exec_sameInstance {i : Instr} {s t : State} (h : exec i s = .next t) : sameInstance s t := by
  rcases exec_cases h with ⟨-, hq⟩ | ⟨k, -, rfl⟩ | ⟨-, -, hs⟩
  · exact hq.inst
  · exact ⟨rfl, rfl, rfl, rfl, rfl⟩
  · exact hs.inst

theorem resume_sameKey {s : State} (hidle : s.phase ≠ .idle) (hpay : ∀ got, s.phase ≠ .payload got) :
    sameKey s s.resume :=
  (resume_cases hidle hpay).elim (·.2.key) (·.2.key)

theorem resume_sameInstance {s : State} (hidle : s.phase ≠ .idle) (hpay : ∀ got, s.phase ≠ .payload got) :
    sameInstance s s.resume :=
  (resume_cases hidle hpay).elim (·.2.inst) (·.2.inst)

/-- Settles O53: SETKEY is the only command that writes the key registers, and a turn that does not run it runs another
command or none. -/
theorem keyWrittenOnlyBySetkey : Obligations.KeyWrittenOnlyBySetkey := by
  refine ⟨fun i s t => exec_sameKey, fun s t hr h hfetch => ?_⟩
  cases turn_of_step hr h with
  | noWord => exact ⟨rfl, rfl⟩
  | illegal => exact ⟨rfl, rfl⟩
  | payload => exact ⟨rfl, rfl⟩
  | starts i rest hp hd he =>
    have hset : ∀ k, i ≠ .setkey k := fun k hi => hfetch k _ (hi ▸ fetch_of_instr hr hp hd)
    exact exec_sameKey (s := s.setCmd rest) hset he
  | setkey hp hk => exact absurd (fetch_of_payload hr hp hk) (hfetch _ _)
  | resumes hidle hpay => exact resume_sameKey hidle hpay

theorem turn_hsize {s t : State} (h : Turn s t) : t.hsize = s.hsize := by
  cases h with
  | noWord => rfl
  | illegal => rfl
  | payload => rfl
  | starts _ _ _ _ he => exact (exec_sameInstance he).1
  | setkey => rfl
  | resumes hidle hpay => exact (resume_sameInstance hidle hpay).1

/-- Settles O54: a step in reset latches the strap, and no turn of the command loop writes HSIZE. -/
theorem sizeLatchedInReset : Obligations.SizeLatchedInReset := by
  intro s t h
  by_cases hr : s.rst = true
  · rw [if_pos hr, step_in_reset hr h]
    rfl
  · rw [if_neg hr]
    exact turn_hsize (turn_of_step (Bool.eq_false_of_not_eq_true hr) h)

end Sys2Proof.Machine
end

section
/-! What a byte of the message buffer reads as after a store (R33), and what a digest reads of the buffer and of the
working vectors (R101 to R105). -/

namespace Sys2Proof.Machine

/-! ## Reading after a store -/

theorem memByte_of_lt_all {m : Memory} {a : Nat} (h : ∀ c ∈ m, a < c.1) : memByte m a = unlistedByte := by
  induction m with
  | nil => rfl
  | cons c m ih =>
    obtain ⟨hc, hm⟩ := List.forall_mem_cons.1 h
    rw [memByte, if_neg hc.ne', ih hm]

theorem memByte_memCons {m : Memory} {a : Nat} (b : Byte) (h : ∀ c ∈ m, a < c.1) (x : Nat) :
    memByte (memCons a b m) x = if x = a then b else memByte m x := by
  by_cases hb : b = unlistedByte
  · by_cases hx : x = a
    · simp [memCons, hb, hx, memByte_of_lt_all h]
    · simp [memCons, hb, hx]
  · simp [memCons, hb, memByte, eq_comm]

theorem memByte_memPut {m : Memory} (hm : Memory.wf m) (a : Nat) (b : Byte) (x : Nat) :
    memByte (memPut m a b) x = if x = a then b else memByte m x := by
  induction m with
  | nil => exact memByte_memCons (m := []) b nofun x
  | cons c m ih =>
    have habove : ∀ d ∈ m, c.1 < d.1 := (List.pairwise_cons.1 hm.1).1
    rcases lt_trichotomy a c.1 with hlt | heq | hgt
    · rw [memPut, if_pos hlt]
      exact memByte_memCons b (List.forall_mem_cons.2 ⟨hlt, fun d hd => hlt.trans (habove d hd)⟩) x
    · subst heq
      rw [memPut, if_neg (lt_irrefl _), if_pos rfl, memByte_memCons b habove, memByte]
      split
      · rfl
      · rw [if_neg (Ne.symm ‹_›)]
    · rw [memPut, if_neg hgt.not_gt, if_neg hgt.ne', memByte, memByte, ih (wf_tail hm)]
      by_cases hx : c.1 = x
      · rw [if_pos hx, if_neg (hx ▸ hgt.ne), if_pos hx]
      · rw [if_neg hx, if_neg hx]

/-! ## What the digest reads -/

/-- Two buffers that hold the same message of `len` bytes. -/
def SameMessage (len : Nat) (m m' : Memory) : Prop := ∀ a < len, memByte m a = memByte m' a

theorem SameMessage.memPut {len : Nat} {m m' : Memory} (h : SameMessage len m m') (hm : Memory.wf m)
    (hm' : Memory.wf m') (b : Byte) : SameMessage (len + 1) (memPut m len b) (memPut m' len b) := by
  intro a ha
  rw [memByte_memPut hm, memByte_memPut hm']
  split
  · rfl
  · exact h a (by omega)

theorem SameMessage.memRead_eq {len addr n : Nat} {m m' : Memory} (h : SameMessage len m m') (hn : addr + n ≤ len) :
    memRead m addr n = memRead m' addr n :=
  List.map_congr_left fun i hi => h (addr + i) (by have := List.mem_range.1 hi; omega)

/-- The working vectors the next step of a digest reads: `H`, `N` and `SIGMA`. -/
def HashRegs.chain (r : HashRegs) : HashRegs := { r with kh := 0, t := 0, m := 0 }

theorem chunk_chain (c : Config) (blk : Vec) (r : HashRegs) : r.chain.chunk c blk = r.chunk c blk := rfl

theorem pad_chain (c : Config) (msg : Memory) (l : Nat) (r : HashRegs) : r.chain.pad c msg l = r.pad c msg l := rfl

/-- R102: step 2 reads the message below `l` only. -/
theorem absorbChunks_chain_eq (c : Config) {msg msg' : Memory} (q l : Nat) {r r' : HashRegs} (hq : 64 * q ≤ l)
    (hmsg : SameMessage l msg msg') (hr : r.chain = r'.chain) :
    (absorbChunks c msg q l r).chain = (absorbChunks c msg' q l r').chain := by
  induction q generalizing l r r' with
  | zero => exact hr
  | succ q ih =>
    have hread : memRead msg (l - 64) 64 = memRead msg' (l - 64) 64 := hmsg.memRead_eq (by omega)
    rw [absorbChunks, absorbChunks, hread, ← chunk_chain c _ r, hr, chunk_chain]
    exact ih (l - 64) (by omega) (fun a ha => hmsg a (by omega)) rfl

/-- The digest depends on the message only, not on the buffer's other bytes or the working vectors (R101 to R105). -/
theorem digestRegs_eq (c : Config) (hs : HSize) {msg msg' : Memory} {len : Nat} (hmsg : SameMessage len msg msg')
    (r r' : HashRegs) : digestRegs c hs msg len r = digestRegs c hs msg' len r' := by
  have hhead : paddedBlock msg (len % 64) = paddedBlock msg' (len % 64) := by
    rw [paddedBlock, paddedBlock, hmsg.memRead_eq (by have := Nat.mod_le len 64; omega)]
  have hchunks : (absorbChunks c msg (len / 64) len (r.init hs)).chain =
      (absorbChunks c msg' (len / 64) len (r'.init hs)).chain :=
    absorbChunks_chain_eq c (len / 64) len (Nat.mul_div_le len 64) hmsg rfl
  rw [digestRegs, digestRegs, ← pad_chain, hchunks, pad_chain, HashRegs.pad, HashRegs.pad, hhead]

end Sys2Proof.Machine
end

section
/-! Two runs of a command from states that differ in the working state only (R11, R24, R26). -/

namespace Sys2Proof.Machine

/-! ## The state without its working state -/

/-- Everything but the working registers, MSG and LEN: the ports, the architectural registers, and where the command
stands. -/
def State.visible (s : State) : State := { s with cipher := .atReset, hash := .atReset, msg := [], len := 0 }

/-! What an operation that reads no working state does shows in the visible part: equal visible parts stay equal. -/

section
variable {s t : State} (h : s.visible = t.visible)
include h

/-- What can be told from the visible part is told alike. -/
theorem eq_of_visible {α : Type} (f : State → α) (hf : ∀ r : State, f r.visible = f r) : f s = f t := by
  rw [← hf s, h, hf t]

theorem waitAt_visible (p : Phase) : (s.waitAt p).visible = (t.waitAt p).visible := congrArg (State.waitAt p) h

theorem setDin_visible (ts : List DinToken) : (s.setDin ts).visible = (t.setDin ts).visible :=
  congrArg (State.setDin ts) h

theorem wrote_visible (es : List DoutEvent) : (s.wrote es).visible = (t.wrote es).visible :=
  congrArg (State.wrote es) h

theorem answered_visible (ws : List Word) : (s.answered ws).visible = (t.answered ws).visible :=
  congrArg (State.answered ws) h

theorem raise_visible (f : Fault) : (s.raise f).visible = (t.raise f).visible := congrArg (State.raise f) h

theorem complete_visible : s.complete.visible = t.complete.visible := congrArg State.complete h

theorem loadKey_visible (k : KeyWords) : (s.loadKey k).visible = (t.loadKey k).visible :=
  congrArg (State.loadKey k) h

/-- The free values are drawn into working registers, and the counter of draws is visible. -/
theorem freeWork_visible (u : StreamUnit) : (s.freeWork u).visible = (t.freeWork u).visible := by
  have hfree : ∀ r : State, (r.freeWork u).visible = { r.visible with draws := r.visible.draws + 1 } := fun r => by
    cases u <;> rfl
  rw [hfree, hfree, h]

theorem sinkAt_eq_of_visible (j : Nat) : s.sinkAt j = t.sinkAt j := eq_of_visible h (State.sinkAt · j) fun _ => rfl

/-! ## The ends of a stream command -/

theorem release_visible (u : StreamUnit) (f : Fault) : (s.release u f).visible = (t.release u f).visible := by
  rw [release_eq, release_eq, sinkAt_eq_of_visible h]
  cases t.sinkAt 0 with
  | none => exact waitAt_visible h _
  | some a => exact freeWork_visible (raise_visible (wrote_visible h _) f) u

theorem finish_visible (u : StreamUnit) : (s.finish u).visible = (t.finish u).visible := by
  rw [finish_eq, finish_eq, sinkAt_eq_of_visible h]
  cases t.sinkAt 0 with
  | none => exact waitAt_visible h _
  | some a => cases a with
    | ok => exact freeWork_visible (complete_visible (wrote_visible h _)) u
    | err => exact freeWork_visible (raise_visible (wrote_visible h _) _) u

theorem drainTokens_visible (u : StreamUnit) (f : Fault) (ts : List DinToken) :
    (drainTokens u f ts s).visible = (drainTokens u f ts t).visible := by
  induction ts with
  | nil => exact waitAt_visible (setDin_visible h []) _
  | cons tok ts ih => cases tok with
    | byte b => exact ih
    | endTok => exact release_visible (setDin_visible h ts) u f
    | errTok => exact release_visible (setDin_visible h ts) u f

theorem drain_visible (u : StreamUnit) (f : Fault) : (s.drain u f).visible = (t.drain u f).visible := by
  have hdin : s.din = t.din := eq_of_visible h State.din fun _ => rfl
  rw [State.drain, State.drain, hdin]
  exact drainTokens_visible h u f t.din

/-! ## Runs of writes -/

omit h in
/-- What a run of DOUT writes does depends on the sink alone. -/
theorem sendBytes_eq_of_sinkAt (hsink : ∀ j, s.sinkAt j = t.sinkAt j) (bs : List Byte) :
    ∃ r es, sendBytes bs s = (r, s.wrote es) ∧ sendBytes bs t = (r, t.wrote es) := by
  induction bs generalizing s t with
  | nil => exact ⟨.done, [], by rw [wrote_nil]; rfl, by rw [wrote_nil]; rfl⟩
  | cons b bs ih =>
    simp only [sendBytes, doutWrite_eq, hsink 0]
    cases t.sinkAt 0 with
    | none => exact ⟨_, [], by rw [wrote_nil]; rfl, by rw [wrote_nil]; rfl⟩
    | some a => cases a with
      | ok =>
        obtain ⟨r, es, hs, ht⟩ := ih (s := s.wrote [{ token := .byte b, answer := .ok }])
          (t := t.wrote [{ token := .byte b, answer := .ok }]) fun j => by simp only [sinkAt_wrote, hsink]
        exact ⟨r, _, hs.trans (by rw [wrote_wrote]), ht.trans (by rw [wrote_wrote])⟩
      | err => exact ⟨.refused, _, rfl, rfl⟩

theorem sendBytes_of_visible (bs : List Byte) :
    ∃ r es, sendBytes bs s = (r, s.wrote es) ∧ sendBytes bs t = (r, t.wrote es) :=
  sendBytes_eq_of_sinkAt (sinkAt_eq_of_visible h) bs

omit h in
/-- What a run of RSP writes does depends on the host alone. -/
theorem sendRsp_eq_of_rspRoom (hroom : s.rspRoom = t.rspRoom) (ws : List Word) :
    ∃ n pre, sendRsp ws s = (n, s.answered pre) ∧ sendRsp ws t = (n, t.answered pre) := by
  induction ws generalizing s t with
  | nil => exact ⟨0, [], by rw [answered_nil]; rfl, by rw [answered_nil]; rfl⟩
  | cons w ws ih =>
    simp only [sendRsp, rspWrite_eq, hroom]
    by_cases hfull : t.rspRoom = some 0
    · exact ⟨ws.length + 1, [], by simp [hfull, answered_nil], by simp [hfull, answered_nil]⟩
    · obtain ⟨n, pre, hs, ht⟩ := ih (s := s.answered [w]) (t := t.answered [w])
        (by simp only [State.answered, hroom])
      exact ⟨n, w :: pre, by simp [hfull, hs, answered_answered], by simp [hfull, ht, answered_answered]⟩

/-! ## The commands on RSP -/

theorem sendKey_visible (j : Nat) : (s.sendKey j).visible = (t.sendKey j).visible := by
  have hkey : s.key = t.key := eq_of_visible h State.key fun _ => rfl
  have hroom : s.rspRoom = t.rspRoom := eq_of_visible h State.rspRoom fun _ => rfl
  obtain ⟨n, pre, hs, ht⟩ := sendRsp_eq_of_rspRoom hroom (t.key.toList.drop j)
  rw [State.sendKey, State.sendKey, hkey, hs, ht]
  cases n with
  | zero => exact complete_visible (answered_visible h pre)
  | succ n => exact waitAt_visible (answered_visible h pre) _

theorem sendStatus_visible : s.sendStatus.visible = t.sendStatus.visible := by
  have hstatus : s.status = t.status := eq_of_visible h State.status fun _ => rfl
  have hroom : s.rspRoom = t.rspRoom := eq_of_visible h State.rspRoom fun _ => rfl
  rw [State.sendStatus, State.sendStatus, rspWrite_eq, rspWrite_eq, hstatus, hroom]
  by_cases hfull : t.rspRoom = some 0
  · simpa only [if_pos hfull] using waitAt_visible h .stat
  · simpa only [if_neg hfull] using waitAt_visible (answered_visible h [t.status]) .idle

end

/-! ## CPROC -/

/-- The cipher registers the reading of a block depends on: `A`, `B` and `RND` are written before they are read. -/
def CipherRegs.block (r : CipherRegs) : CipherRegs := { r with a := 0, b := 0, rnd := 0 }

theorem takeByte_block (b : Byte) (r : CipherRegs) : (r.takeByte b).block = r.block.takeByte b := by
  unfold CipherRegs.takeByte
  by_cases h : r.icnt.val < 8
  · rw [dif_pos h, dif_pos (show r.block.icnt.val < 8 from h)]
    rfl
  · rw [dif_neg h, dif_neg (show ¬ r.block.icnt.val < 8 from h)]

/-- R72, R73: the block transformed overwrites what `A`, `B` and `RND` held. -/
theorem transform_block (cs : CSbox) (key : KeyWords) (m : Mode) (r : CipherRegs) :
    r.block.transform cs key m = r.transform cs key m := rfl

/-- Two states in `ReadBlock()` with the same visible part and the same block being assembled. -/
structure ReadsAlike (s t : State) : Prop where
  visible : s.visible = t.visible
  block : s.cipher.block = t.cipher.block

theorem ReadsAlike.setDin {s t : State} (h : ReadsAlike s t) (ts : List DinToken) :
    ReadsAlike (s.setDin ts) (t.setDin ts) :=
  ⟨setDin_visible h.visible ts, h.block⟩

theorem ReadsAlike.takeByte {s t : State} (h : ReadsAlike s t) (b : Byte) :
    ReadsAlike (s.takeByte b) (t.takeByte b) :=
  ⟨h.visible, by simp only [State.takeByte_cipher, takeByte_block, h.block]⟩

theorem ReadsAlike.markEnd {s t : State} (h : ReadsAlike s t) : ReadsAlike s.markEnd t.markEnd :=
  ⟨h.visible, congrArg (fun r : CipherRegs => { r with eos := true }) h.block⟩

theorem ReadsAlike.icnt_eq {s t : State} (h : ReadsAlike s t) : s.cipher.icnt = t.cipher.icnt :=
  show s.cipher.block.icnt = t.cipher.block.icnt from congrArg _ h.block

/-- Once the block is transformed nothing of the earlier cipher registers is left. -/
theorem ReadsAlike.transform_cipher_eq {s t : State} (h : ReadsAlike s t) (m : Mode) :
    (s.transform m).cipher = (t.transform m).cipher := by
  have hcfg : s.cfg = t.cfg := eq_of_visible h.visible State.cfg fun _ => rfl
  have hkey : s.key = t.key := eq_of_visible h.visible State.key fun _ => rfl
  rw [State.transform_cipher, State.transform_cipher, ← transform_block, h.block, transform_block, hcfg, hkey]

/-- Two flows of `WriteBlock()` that go on alike, or stop with the same visible part. -/
inductive Flow.Alike : Flow → Flow → Prop
  | more {s t : State} (h : ReadsAlike s t) : Flow.Alike (.more s) (.more t)
  | stop {s t : State} (h : s.visible = t.visible) : Flow.Alike (.stop s) (.stop t)

theorem writeBlock_alike (m : Mode) (k : Nat) {s t : State} (h : s.visible = t.visible)
    (hc : s.cipher = t.cipher) : (writeBlock m k s).Alike (writeBlock m k t) := by
  obtain ⟨r, es, hs, ht⟩ := sendBytes_of_visible h ((storeHalves (t.cipher.a, t.cipher.b)).drop k)
  have hw : (s.wrote es).visible = (t.wrote es).visible := wrote_visible h es
  rw [writeBlock, writeBlock, hc, hs, ht]
  cases r with
  | done =>
    by_cases he : t.cipher.eos = true
    · simpa [hc, he] using Flow.Alike.stop (finish_visible hw .cipher)
    · have hstart : ReadsAlike (s.wrote es).startBlock (t.wrote es).startBlock := ⟨hw, rfl⟩
      simpa [hc, he] using Flow.Alike.more hstart
  | refused =>
    by_cases he : t.cipher.eos = true
    · simpa [hc, he] using Flow.Alike.stop (release_visible hw .cipher .streamOut)
    · simpa [hc, he] using Flow.Alike.stop (drain_visible hw .cipher .streamOut)
  | waiting left => exact .stop (waitAt_visible hw _)

theorem transform_writeBlock_alike (m : Mode) {s t : State} (h : ReadsAlike s t) :
    (writeBlock m 0 (s.transform m)).Alike (writeBlock m 0 (t.transform m)) :=
  writeBlock_alike m 0 h.visible (h.transform_cipher_eq m)

theorem readTokens_visible (m : Mode) (ts : List DinToken) {s t : State} (h : ReadsAlike s t) :
    (readTokens m ts s).visible = (readTokens m ts t).visible := by
  induction ts generalizing s t with
  | nil => exact waitAt_visible (setDin_visible h.visible []) _
  | cons tok ts ih =>
    have hd : ReadsAlike (s.setDin ts) (t.setDin ts) := h.setDin ts
    cases tok with
    | byte b =>
      have hb := hd.takeByte b
      have hw := transform_writeBlock_alike m hb
      rw [readTokens, readTokens, hb.icnt_eq]
      split
      · exact ih hb
      · generalize writeBlock m 0 (((s.setDin ts).takeByte b).transform m) = p at hw ⊢
        generalize writeBlock m 0 (((t.setDin ts).takeByte b).transform m) = q at hw ⊢
        cases hw with
        | more hu => exact ih hu
        | stop hu => exact hu
    | endTok =>
      have hw := transform_writeBlock_alike m hd.markEnd
      rw [readTokens, readTokens, h.icnt_eq]
      split
      · exact finish_visible hd.markEnd.visible .cipher
      · generalize writeBlock m 0 ((s.setDin ts).markEnd.transform m) = p at hw ⊢
        generalize writeBlock m 0 ((t.setDin ts).markEnd.transform m) = q at hw ⊢
        cases hw with
        | more hu => exact hu.visible
        | stop hu => exact hu
    | errTok => exact release_visible hd.visible .cipher .streamIn

theorem process_visible (m : Mode) {s t : State} (h : s.visible = t.visible) :
    (s.process m).visible = (t.process m).visible := by
  have hkeyv : s.keyv = t.keyv := eq_of_visible h State.keyv fun _ => rfl
  have hdin : s.startBlock.din = t.startBlock.din := eq_of_visible h (·.startBlock.din) fun _ => rfl
  have hstart : ReadsAlike s.startBlock t.startBlock := ⟨h, rfl⟩
  rw [State.process, State.process, hkeyv, State.readOn, State.readOn, hdin]
  split
  · exact readTokens_visible m _ hstart
  · exact raise_visible h .keyUnset

/-! ## HDIGEST -/

theorem sendDigest_visible (k : Nat) {s t : State} (h : s.visible = t.visible) (hh : s.hash.h = t.hash.h) :
    (s.sendDigest k).visible = (t.sendDigest k).visible := by
  have hsize : s.hsize = t.hsize := eq_of_visible h State.hsize fun _ => rfl
  obtain ⟨r, es, hs, ht⟩ := sendBytes_of_visible h ((digestBytes t.hsize t.hash.h).drop k)
  have hw : (s.wrote es).visible = (t.wrote es).visible := wrote_visible h es
  rw [State.sendDigest, State.sendDigest, hsize, hh, hs, ht]
  cases r with
  | done => exact finish_visible hw .hash
  | refused => exact release_visible hw .hash .streamOut
  | waiting left => exact waitAt_visible hw _

/-- Two states in HDIGEST's copy loop with the same visible part and the same message so far. -/
structure CopiesAlike (s t : State) : Prop where
  visible : s.visible = t.visible
  len : s.len = t.len
  message : SameMessage t.len s.msg t.msg
  wf_left : Memory.wf s.msg
  wf_right : Memory.wf t.msg

theorem CopiesAlike.storeByte {s t : State} (h : CopiesAlike s t) (b : Byte) :
    CopiesAlike (s.storeByte b) (t.storeByte b) := by
  obtain ⟨hv, hlen, hmsg, hs, ht⟩ := h
  refine ⟨hv, congrArg (· + 1) hlen, ?_, memWrite_wf [b] hs, memWrite_wf [b] ht⟩
  rw [State.storeByte_msg, hlen]
  exact hmsg.memPut hs ht b

theorem CopiesAlike.digest_eq {s t : State} (h : CopiesAlike s t) :
    s.computeDigest.hash = t.computeDigest.hash := by
  obtain ⟨hv, hlen, hmsg, -, -⟩ := h
  have hcfg : s.cfg = t.cfg := eq_of_visible hv State.cfg fun _ => rfl
  have hsize : s.hsize = t.hsize := eq_of_visible hv State.hsize fun _ => rfl
  rw [State.computeDigest_hash, State.computeDigest_hash, hcfg, hsize, hlen]
  exact digestRegs_eq _ _ hmsg _ _

theorem copyTokens_visible (ts : List DinToken) {s t : State} (h : CopiesAlike s t) :
    (copyTokens ts s).visible = (copyTokens ts t).visible := by
  induction ts generalizing s t with
  | nil => exact waitAt_visible (setDin_visible h.visible []) _
  | cons tok ts ih =>
    have hd : (s.setDin ts).visible = (t.setDin ts).visible := setDin_visible h.visible ts
    cases tok with
    | byte b =>
      have hcfg : s.cfg = t.cfg := eq_of_visible h.visible State.cfg fun _ => rfl
      rw [copyTokens, copyTokens, hcfg, h.len]
      split
      · exact drain_visible hd .hash .msgOverflow
      · exact ih (h.storeByte b)
    | endTok => exact sendDigest_visible 0 hd (congrArg HashRegs.h h.digest_eq)
    | errTok => exact release_visible hd .hash .streamIn

/-! ## Every command -/

theorem exec_visible (i : Instr) {s t : State} (h : s.visible = t.visible) (hs : Memory.wf s.msg)
    (ht : Memory.wf t.msg) : ∃ s' t', exec i s = .next s' ∧ exec i t = .next t' ∧ s'.visible = t'.visible := by
  cases i with
  | stat => exact ⟨_, _, rfl, rfl, sendStatus_visible h⟩
  | setkey k => exact ⟨_, _, rfl, rfl, complete_visible (loadKey_visible h k)⟩
  | getkey =>
    have hkeyv : s.keyv = t.keyv := eq_of_visible h State.keyv fun _ => rfl
    simp only [exec, execGetkey, hkeyv]
    split
    · exact ⟨_, _, rfl, rfl, sendKey_visible h 0⟩
    · exact ⟨_, _, rfl, rfl, raise_visible h .keyUnset⟩
  | cprocUnset => exact ⟨_, _, rfl, rfl, raise_visible h .cfgMode⟩
  | cprocEnc => exact ⟨_, _, rfl, rfl, process_visible .enc h⟩
  | cprocDec => exact ⟨_, _, rfl, rfl, process_visible .dec h⟩
  | cprocBad => exact ⟨_, _, rfl, rfl, raise_visible h .cfgMode⟩
  | hdigest =>
    have hdin : s.startMessage.din = t.startMessage.din := eq_of_visible h (·.startMessage.din) fun _ => rfl
    have hcopy : CopiesAlike s.startMessage t.startMessage := ⟨h, rfl, nofun, hs, ht⟩
    refine ⟨_, _, rfl, rfl, ?_⟩
    rw [State.copyOn, State.copyOn, hdin]
    exact copyTokens_visible _ hcopy

/-- Settles O59: the two runs keep equal visible parts, which hold every port and architectural register. -/
theorem workingStateUnobservable : Obligations.WorkingStateUnobservable := by
  intro i s cr hr msg len hs hmsg
  obtain ⟨t, u, ht, hu, h⟩ :=
    exec_visible i (s := s) (t := { s with cipher := cr, hash := hr, msg := msg, len := len }) rfl hs hmsg
  have same {α : Type} (field : State → α) : field u.visible = field t.visible := congrArg field h.symm
  exact ⟨t, u, ht, hu, same State.key, same State.keyv, same State.flt, same State.lasterr, same State.hsize,
    same State.phase, same State.cmd, same State.din, same State.dout, same State.rsp⟩

end Sys2Proof.Machine
end

section
/-! The payload of SETKEY and the words left on CMD (R53, R54, R76). -/

namespace Sys2Proof.Machine

/-! ## Eight payload words -/

/-- R53: what is taken is the eight words in arrival order, and nothing of what follows. -/
theorem eq_append_of_takePayload : ∀ {ws rest : List Word} {key : KeyWords},
    takePayload ws = some (key, rest) → ws = key.toList ++ rest
  | _ :: _ :: _ :: _ :: _ :: _ :: _ :: _ :: _, _, _, h => by
    obtain ⟨rfl, rfl⟩ := Prod.mk.inj (Option.some.inj h)
    rfl

theorem takePayload_toList_append (key : KeyWords) (rest : List Word) :
    takePayload (key.toList ++ rest) = some (key, rest) := by
  obtain ⟨⟨l⟩, hl⟩ := key
  match l, hl with
  | [_, _, _, _, _, _, _, _], _ => rfl

theorem takePayload_eq_none {ws : List Word} (h : ws.length < 8) : takePayload ws = none := by
  cases hk : takePayload ws with
  | none => rfl
  | some p =>
    obtain ⟨key, rest⟩ := p
    have hlen := congrArg List.length (eq_append_of_takePayload hk)
    simp at hlen
    omega

theorem decode_setkey_short {ws : List Word} (h : ws.length < 8) : decode (wordZ 0x10 :: ws) = .short ws := by
  have hhead : decodeHead (wordZ 0x10) = .ok .setkey := by decide
  simp only [decode, hhead, takePayload_eq_none h]

theorem step_of_fetch_done {s t : State} (h : s.fetch = .done t) : step s = .next t := by
  rw [step, h]

theorem step_of_fetch_run {s u : State} {i : Instr} (h : s.fetch = .run i u) : step s = exec i u := by
  rw [step, h]

/-- Settles O8: fewer than eight payload words do not decode to a key, and eight decode to themselves. -/
theorem setkeyWaitsForPayload : Obligations.SetkeyWaitsForPayload := by
  intro s hr
  refine ⟨fun ws hp hcmd hlen => step_of_fetch_done ?_, fun got hp hlen => step_of_fetch_done ?_,
    fun got k rest hp hcmd => step_of_fetch_run ?_⟩
  · rw [fetch_at_idle hr hp, State.fetchCommand, hcmd, decode_setkey_short hlen]
    rfl
  · rw [fetch_at_payload hr hp, State.fetchPayload, takePayload_eq_none hlen]
    rfl
  · exact fetch_of_payload hr hp (hcmd ▸ takePayload_toList_append k rest)

/-- All that a step can do: the reset move, or a turn of the command loop. -/
theorem resetMove_or_turn {s t : State} (h : step s = .next t) : t = s.resetMove ∨ Turn s t := by
  by_cases hr : s.rst = true
  · exact .inl (step_in_reset hr h)
  · exact .inr (turn_of_step (Bool.eq_false_of_not_eq_true hr) h)

/-! ## Words are taken from the front -/

theorem suffix_of_takePayload {got cmd rest : List Word} {key : KeyWords} (hgot : got.length < 8)
    (h : takePayload (got ++ cmd) = some (key, rest)) : rest <:+ cmd := by
  have heq : got ++ cmd = key.toList ++ rest := eq_append_of_takePayload h
  have hlen := congrArg List.length heq
  simp only [List.length_append, Vector.length_toList] at hlen
  exact List.suffix_of_suffix_length_le (l₃ := got ++ cmd) (heq ▸ List.suffix_append _ _)
    (List.suffix_append _ _) (by omega)

theorem suffix_of_decode_illegal {ws rest : List Word} {why : Illegal} (h : decode ws = .illegal why rest) :
    rest <:+ ws := by
  unfold decode at h
  split at h
  · cases h
  · split at h
    · cases h
      exact List.suffix_cons _ _
    · cases h
    · split at h <;> cases h

theorem suffix_of_decode_instr {ws rest : List Word} {i : Instr} (h : decode ws = .instr i rest) : rest <:+ ws := by
  unfold decode at h
  split at h
  · cases h
  · split at h
    · cases h
    · cases h
      exact List.suffix_cons _ _
    · split at h <;> cases h
      exact (suffix_of_takePayload (got := []) (by simp) ‹_›).trans (List.suffix_cons _ _)

/-- R13, R54, R76: a turn takes words of CMD from the front. A waiting SETKEY must hold fewer than eight payload
words. -/
theorem turn_cmd_suffix {s t : State} (hinv : s.PhaseInv) (h : Turn s t) : t.cmd <:+ s.cmd := by
  cases h with
  | noWord => exact List.suffix_rfl
  | illegal _ hd => exact suffix_of_decode_illegal hd
  | payload => exact List.nil_suffix
  | starts i rest _ hd he =>
    obtain ⟨-, -, -, -, hcmd⟩ := exec_sameInstance he
    exact hcmd ▸ suffix_of_decode_instr hd
  | setkey hp hk =>
    have hgot := hinv
    simp only [State.PhaseInv, hp] at hgot
    exact suffix_of_takePayload hgot hk
  | resumes hidle hpay =>
    obtain ⟨-, -, -, -, hcmd⟩ := resume_sameInstance hidle hpay
    exact hcmd ▸ List.suffix_rfl

end Sys2Proof.Machine
end

section
/-! What GETKEY puts out on RSP when it goes on (R46, R77), a byte of the buffer read back (R33), and the parameters
(R7, R32). -/

namespace Sys2Proof.Machine

/-! ## A run of RSP writes, by how many words the host takes -/

theorem State.RspTakes.eq_none_or {s : State} {n : Nat} (h : s.RspTakes n) :
    s.rspRoom = none ∨ ∃ k, s.rspRoom = some k ∧ n ≤ k := by
  unfold State.RspTakes at h
  cases hroom : s.rspRoom with
  | none => exact .inl rfl
  | some k => exact .inr ⟨k, rfl, by rwa [hroom] at h⟩

theorem sendRsp_append {pre : List Word} {s : State} (h : s.RspTakes pre.length) (post : List Word) :
    sendRsp (pre ++ post) s = sendRsp post (s.answered pre) := by
  induction pre generalizing s with
  | nil => rw [answered_nil]; rfl
  | cons w pre ih =>
    have hroom : s.rspRoom ≠ some 0 := fun h0 => by simp [State.RspTakes, h0] at h
    have hrest : (s.answered [w]).RspTakes pre.length := by
      rcases h.eq_none_or with h | ⟨k, h, hk⟩
      · simp [State.RspTakes, State.answered, h]
      · simp only [List.length_cons] at hk
        simp only [State.RspTakes, State.answered, h, Option.map_some, List.length_singleton]
        omega
    rw [List.cons_append, sendRsp, rspWrite_eq, if_neg hroom]
    exact (ih hrest).trans (by rw [answered_answered]; rfl)

/-- While the host takes them, every word goes out. -/
theorem sendRsp_all {ws : List Word} {s : State} (h : s.RspTakes ws.length) :
    sendRsp ws s = (0, s.answered ws) := by
  simpa [sendRsp] using sendRsp_append h []

/-- R46: when the host takes `k` words only, those go out. -/
theorem sendRsp_some {ws : List Word} {s : State} {k : Nat} (hroom : s.rspRoom = some k) (hk : k < ws.length) :
    sendRsp ws s = (ws.length - k, s.answered (ws.take k)) := by
  have htakes : s.RspTakes (ws.take k).length := by
    simp only [State.RspTakes, hroom, List.length_take]
    omega
  have hfull : (s.answered (ws.take k)).rspRoom = some 0 := by
    simp only [State.answered, hroom, Option.map_some, List.length_take]
    congr 1
    omega
  conv_lhs => rw [← List.take_append_drop k ws, sendRsp_append htakes]
  rw [List.drop_eq_getElem_cons hk, sendRsp, rspWrite_eq, if_pos hfull, List.length_drop]
  simp only [Prod.mk.injEq, and_true]
  omega

/-- R77: the key words left go out, and GETKEY completes. -/
theorem sendKey_all {j : Nat} {s : State} (h : s.RspTakes (8 - j)) :
    s.sendKey j = (s.answered (s.key.toList.drop j)).complete := by
  have hlen : (s.key.toList.drop j).length = 8 - j := by simp
  rw [State.sendKey, sendRsp_all (hlen.symm ▸ h)]

/-- R46, R77: `k` of the key words left go out, and GETKEY waits before the next. -/
theorem sendKey_some {j k : Nat} {s : State} (hroom : s.rspRoom = some k) (hk : k < 8 - j) :
    s.sendKey j = (s.answered ((s.key.toList.drop j).take k)).waitAt (.getkey (j + k)) := by
  have hlen : (s.key.toList.drop j).length = 8 - j := by simp
  rw [State.sendKey, sendRsp_some hroom (hlen.symm ▸ hk), hlen]
  obtain ⟨n, hn⟩ : ∃ n, 8 - j - k = n + 1 := ⟨8 - j - k - 1, by omega⟩
  have hwait : 8 - (n + 1) = j + k := by omega
  rw [hn, ← hwait]

/-- Out of reset a command in progress, SETKEY apart, goes on. -/
theorem step_of_resuming {s : State} (hr : s.rst = false) (hidle : s.phase ≠ .idle)
    (hpay : ∀ got, s.phase ≠ .payload got) : step s = .next s.resume :=
  step_of_fetch_done (fetch_of_resuming hr hidle hpay)

/-- Settles O15: all the words left go out, or as many as the host takes. -/
theorem getkeyGoesOn : Obligations.GetkeyGoesOn := by
  intro s j hr hp hj
  have hlen : (s.key.toList.drop j).length = 8 - j := by simp
  have hstep : step s = .next (s.sendKey j) := by
    rw [step_of_resuming hr (by simp [hp]) (by simp [hp]), State.resume, hp]
  refine ⟨fun htakes => ?_, fun k hk hroom => ?_⟩
  · rw [hstep, sendKey_all htakes, State.answered, hlen]
    rfl
  · have htaken : ((s.key.toList.drop j).take k).length = k := by
      rw [List.length_take, hlen, Nat.min_eq_left hk.le]
    rw [hstep, sendKey_some hroom hk, State.answered, htaken, hroom, Option.map_some, Nat.sub_self]
    rfl

/-! ## The message buffer and the parameters -/

/-- Settles O49: the store puts its cell in the one place that keeps the addresses rising. -/
theorem messageBufferReadAfterWrite : Obligations.MessageBufferReadAfterWrite :=
  fun _ a x b hm => memByte_memPut hm a b x

theorem turn_cfg {s t : State} (h : Turn s t) : t.cfg = s.cfg := by
  cases h with
  | noWord => rfl
  | illegal => rfl
  | payload => rfl
  | starts _ _ _ _ he =>
    obtain ⟨-, -, -, hcfg, -⟩ := exec_sameInstance he
    exact hcfg
  | setkey => rfl
  | resumes hidle hpay =>
    obtain ⟨-, -, -, hcfg, -⟩ := resume_sameInstance hidle hpay
    exact hcfg

/-- Settles O52: neither the reset move nor a turn of the command loop writes the parameters. -/
theorem parametersNeverChange : Obligations.ParametersNeverChange := by
  intro s t h
  rcases resetMove_or_turn h with rfl | hturn
  · rfl
  · exact turn_cfg hturn

end Sys2Proof.Machine
end

section
/-! CPROC in two moves: a block is read, then written (R74, R75, R78). -/

namespace Sys2Proof.Machine

/-! ## A command that has read a whole block writes it and reads on -/

/-- What `WriteBlock()` and the rest of `ProcessStream` do, by how the run of writes ended. -/
theorem writeOn_eq (m : Mode) (k : Nat) (s : State) :
    s.writeOn m k = match sendBytes ((storeHalves (s.cipher.a, s.cipher.b)).drop k) s with
      | (.done, t) => if t.cipher.eos then t.finish .cipher else t.startBlock.readOn m
      | (.refused, t) => if t.cipher.eos then t.release .cipher .streamOut else t.drain .cipher .streamOut
      | (.waiting left, t) => t.waitAt (.write m (8 - left)) := by
  rw [State.writeOn, writeBlock]
  rcases sendBytes ((storeHalves (s.cipher.a, s.cipher.b)).drop k) s with ⟨r, t⟩
  cases r with
  | done => by_cases he : t.cipher.eos = true <;> simp [he]
  | refused => rfl
  | waiting left => rfl

@[simp] theorem writeOn_waitAt (m : Mode) (k : Nat) (s : State) (p : Phase) :
    (s.waitAt p).writeOn m k = s.writeOn m k := by
  rw [State.writeOn, State.writeOn, writeBlock_waitAt]
  cases writeBlock m k s with
  | more u => exact readTokens_waitAt m u.din u p
  | stop u => rfl

/-- The next block is read from the DIN the block before it was written with. -/
theorem writeBlock_more_din {m : Mode} {k : Nat} {s u : State} (h : writeBlock m k s = .more u) : u.din = s.din := by
  obtain ⟨r, es, hsend, -⟩ := sendBytes_eq_wrote ((storeHalves (s.cipher.a, s.cipher.b)).drop k) s
  rw [writeBlock, hsend] at h
  cases r with
  | done =>
    by_cases he : s.cipher.eos = true
    · simp [he] at h
    · obtain rfl : (s.wrote es).startBlock = u := by simpa [he] using h
      rfl
  | refused => cases h
  | waiting left => cases h

/-- R75, R78: a byte is taken, and the eighth is followed by the block's transformation and writing. -/
theorem readTokens_byte (m : Mode) (b : Byte) (ts : List DinToken) (s : State) :
    readTokens m (.byte b :: ts) s =
      if (s.takeByte b).cipher.icnt.val < 8 then readTokens m ts (s.takeByte b)
      else (((s.takeByte b).transform m).setDin ts).writeOn m 0 := by
  rw [readTokens, takeByte_setDin, transform_setDin, readTokens_setDin, State.writeOn]
  refine ite_congr rfl (fun _ => rfl) fun _ => ?_
  cases hw : writeBlock m 0 (((s.takeByte b).transform m).setDin ts) with
  | more u =>
    have hdin : u.din = ts := writeBlock_more_din hw
    exact congrArg (readTokens m · u) hdin.symm
  | stop u => rfl

/-- R75, R78: `End` after a whole block leads to the final `End`, after a partial one to the padded block. -/
theorem readTokens_endTok (m : Mode) (ts : List DinToken) (s : State) :
    readTokens m (.endTok :: ts) s =
      if s.cipher.icnt.val = 0 then (s.markEnd.setDin ts).finish .cipher
      else ((s.markEnd.transform m).setDin ts).writeOn m 0 := by
  rw [readTokens, markEnd_setDin, transform_setDin, State.writeOn]
  refine ite_congr rfl (fun _ => rfl) fun _ => ?_
  cases hw : writeBlock m 0 ((s.markEnd.transform m).setDin ts) with
  | more u => exact absurd hw (writeBlock_eos_ne_more rfl u)
  | stop u => rfl

end Sys2Proof.Machine
end

section
/-! The words on CMD pass through a command in progress (R116). -/

namespace Sys2Proof.Machine

@[simp] theorem waitAt_setCmd (s : State) (ws : List Word) (p : Phase) :
    (s.setCmd ws).waitAt p = (s.waitAt p).setCmd ws := rfl
@[simp] theorem setDin_setCmd (s : State) (ws : List Word) (d : List DinToken) :
    (s.setCmd ws).setDin d = (s.setDin d).setCmd ws := rfl
@[simp] theorem wrote_setCmd (s : State) (ws : List Word) (es : List DoutEvent) :
    (s.setCmd ws).wrote es = (s.wrote es).setCmd ws := rfl
@[simp] theorem answered_setCmd (s : State) (ws vs : List Word) :
    (s.setCmd ws).answered vs = (s.answered vs).setCmd ws := rfl
@[simp] theorem takeByte_setCmd (s : State) (ws : List Word) (b : Byte) :
    (s.setCmd ws).takeByte b = (s.takeByte b).setCmd ws := rfl
@[simp] theorem markEnd_setCmd (s : State) (ws : List Word) : (s.setCmd ws).markEnd = s.markEnd.setCmd ws := rfl
@[simp] theorem startBlock_setCmd (s : State) (ws : List Word) :
    (s.setCmd ws).startBlock = s.startBlock.setCmd ws := rfl
@[simp] theorem transform_setCmd (s : State) (ws : List Word) (m : Mode) :
    (s.setCmd ws).transform m = (s.transform m).setCmd ws := rfl
@[simp] theorem storeByte_setCmd (s : State) (ws : List Word) (b : Byte) :
    (s.setCmd ws).storeByte b = (s.storeByte b).setCmd ws := rfl
@[simp] theorem computeDigest_setCmd (s : State) (ws : List Word) :
    (s.setCmd ws).computeDigest = s.computeDigest.setCmd ws := rfl
@[simp] theorem raise_setCmd (s : State) (ws : List Word) (f : Fault) :
    (s.setCmd ws).raise f = (s.raise f).setCmd ws := rfl
@[simp] theorem complete_setCmd (s : State) (ws : List Word) : (s.setCmd ws).complete = s.complete.setCmd ws := rfl
@[simp] theorem freeWork_setCmd (s : State) (ws : List Word) (u : StreamUnit) :
    (s.setCmd ws).freeWork u = (s.freeWork u).setCmd ws := by cases u <;> rfl
@[simp] theorem sinkAt_setCmd (s : State) (ws : List Word) (j : Nat) : (s.setCmd ws).sinkAt j = s.sinkAt j := rfl

/-! ## The commands on RSP -/

theorem sendStatus_setCmd (s : State) (ws : List Word) : (s.setCmd ws).sendStatus = s.sendStatus.setCmd ws := by
  have hstatus : (s.setCmd ws).status = s.status := rfl
  rw [State.sendStatus, State.sendStatus, rspWrite_eq, rspWrite_eq, hstatus, State.setCmd_rspRoom]
  by_cases hfull : s.rspRoom = some 0 <;> simp [hfull]

theorem sendKey_setCmd (j : Nat) (s : State) (ws : List Word) : (s.setCmd ws).sendKey j = (s.sendKey j).setCmd ws := by
  have hroom : s.rspRoom = (s.setCmd ws).rspRoom := rfl
  obtain ⟨n, pre, hs, ht⟩ := sendRsp_eq_of_rspRoom hroom (s.key.toList.drop j)
  rw [State.sendKey, State.sendKey, State.setCmd_key, hs, ht]
  cases n <;> rfl

/-! ## The ends of a stream command -/

@[simp] theorem release_setCmd (u : StreamUnit) (f : Fault) (s : State) (ws : List Word) :
    (s.setCmd ws).release u f = (s.release u f).setCmd ws := by
  rw [release_eq, release_eq, sinkAt_setCmd]
  cases s.sinkAt 0 <;> simp

@[simp] theorem finish_setCmd (u : StreamUnit) (s : State) (ws : List Word) :
    (s.setCmd ws).finish u = (s.finish u).setCmd ws := by
  rw [finish_eq, finish_eq, sinkAt_setCmd]
  cases s.sinkAt 0 with
  | none => rfl
  | some a => cases a <;> simp

@[simp] theorem drainTokens_setCmd (u : StreamUnit) (f : Fault) (ts : List DinToken) (s : State) (ws : List Word) :
    drainTokens u f ts (s.setCmd ws) = (drainTokens u f ts s).setCmd ws := by
  induction ts with
  | nil => rfl
  | cons t ts ih => cases t <;> simp [drainTokens, ih]

@[simp] theorem drain_setCmd (u : StreamUnit) (f : Fault) (s : State) (ws : List Word) :
    (s.setCmd ws).drain u f = (s.drain u f).setCmd ws := drainTokens_setCmd u f s.din s ws

/-! ## CPROC -/

/-- The block is written whatever CMD holds, when the reading that follows is. -/
theorem writeOn_setCmd_of (m : Mode) (k : Nat) {s : State} {ws : List Word}
    (hread : ∀ t : State, readTokens m s.din (t.setCmd ws) = (readTokens m s.din t).setCmd ws) :
    (s.setCmd ws).writeOn m k = (s.writeOn m k).setCmd ws := by
  obtain ⟨r, es, hs, ht⟩ := sendBytes_eq_of_sinkAt (s := s) (t := s.setCmd ws) (fun _ => rfl)
    ((storeHalves (s.cipher.a, s.cipher.b)).drop k)
  rw [writeOn_eq, writeOn_eq, State.setCmd_cipher, hs, ht]
  cases r with
  | done =>
    by_cases he : s.cipher.eos = true
    · simp [he]
    · simpa [he, State.readOn] using hread _
  | refused => by_cases he : s.cipher.eos = true <;> simp [he]
  | waiting left => rfl

@[simp] theorem readTokens_setCmd (m : Mode) (ts : List DinToken) (s : State) (ws : List Word) :
    readTokens m ts (s.setCmd ws) = (readTokens m ts s).setCmd ws := by
  induction ts generalizing s with
  | nil => rfl
  | cons t ts ih =>
    cases t with
    | byte b =>
      have hw := writeOn_setCmd_of m 0 (s := ((s.takeByte b).transform m).setDin ts) ih
      simp only [readTokens_byte, takeByte_setCmd, transform_setCmd, setDin_setCmd, State.setCmd_cipher, ih, hw]
      split <;> rfl
    | endTok =>
      have hw := writeOn_setCmd_of m 0 (s := (s.markEnd.transform m).setDin ts) ih
      simp only [readTokens_endTok, markEnd_setCmd, transform_setCmd, setDin_setCmd, State.setCmd_cipher,
        finish_setCmd, hw]
      split <;> rfl
    | errTok => simp [readTokens]

/-! ## HDIGEST -/

@[simp] theorem sendDigest_setCmd (k : Nat) (s : State) (ws : List Word) :
    (s.setCmd ws).sendDigest k = (s.sendDigest k).setCmd ws := by
  obtain ⟨r, es, hs, ht⟩ := sendBytes_eq_of_sinkAt (s := s) (t := s.setCmd ws) (fun _ => rfl)
    ((digestBytes s.hsize s.hash.h).drop k)
  rw [State.sendDigest, State.sendDigest, State.setCmd_hsize, State.setCmd_hash, hs, ht]
  cases r <;> simp

@[simp] theorem copyTokens_setCmd (ts : List DinToken) (s : State) (ws : List Word) :
    copyTokens ts (s.setCmd ws) = (copyTokens ts s).setCmd ws := by
  induction ts generalizing s with
  | nil => rfl
  | cons t ts ih =>
    cases t with
    | byte b =>
      simp only [copyTokens, setDin_setCmd, storeByte_setCmd, drain_setCmd, ih, State.setCmd_cfg, State.setCmd_len]
      split <;> rfl
    | endTok => simp [copyTokens]
    | errTok => simp [copyTokens]

/-! ## A command in progress -/

/-- R116: the command in progress looks at no word of CMD. -/
theorem resume_setCmd (s : State) (ws : List Word) : (s.setCmd ws).resume = s.resume.setCmd ws := by
  unfold State.resume
  rw [State.setCmd_phase]
  cases s.phase with
  | idle => rfl
  | payload got => rfl
  | stat => exact sendStatus_setCmd s ws
  | getkey j => exact sendKey_setCmd j s ws
  | read m => exact readTokens_setCmd m s.din s ws
  | write m k => exact writeOn_setCmd_of m k fun t => readTokens_setCmd m s.din t ws
  | copy => exact copyTokens_setCmd s.din s ws
  | digest k => exact sendDigest_setCmd k s ws
  | lastEnd u => exact finish_setCmd u s ws
  | drain u f => exact drain_setCmd u f s ws
  | release u f => exact release_setCmd u f s ws

/-- Settles O9: with no word the fetch waits, and the words on CMD pass through every command in progress. -/
theorem stepWaitsOrGoesOn : Obligations.StepWaitsOrGoesOn := by
  intro s hr
  refine ⟨fun hp hcmd => step_of_fetch_done ?_,
    fun hidle hpay => ⟨step_of_resuming hr hidle hpay, ?_, fun ws => ?_⟩⟩
  · rw [fetch_at_idle hr hp, State.fetchCommand, hcmd]
    rfl
  · obtain ⟨-, -, -, -, hcmd⟩ := resume_sameInstance hidle hpay
    exact hcmd
  · rw [← State.setCmd, step_of_resuming (s := s.setCmd ws) hr hidle hpay, resume_setCmd]
    rfl

end Sys2Proof.Machine
end

section
/-! The order on the ports: DIN is taken from the front, DOUT and RSP are only added to (R30, R31, R41). -/

namespace Sys2Proof.Machine

/-- From `s` to `t` tokens were taken from the front of DIN, and items added at the end of DOUT and RSP. -/
structure Onward (s t : State) : Prop where
  din : t.din <:+ s.din
  dout : s.dout <+: t.dout
  rsp : s.rsp <+: t.rsp

theorem Onward.trans {s t u : State} (h : Onward s t) (k : Onward t u) : Onward s u :=
  ⟨k.din.trans h.din, h.dout.trans k.dout, h.rsp.trans k.rsp⟩

theorem Onward.of_eq {s t : State} (hdin : t.din = s.din) (hdout : t.dout = s.dout) (hrsp : t.rsp = s.rsp) :
    Onward s t :=
  ⟨hdin ▸ List.suffix_rfl, hdout ▸ List.prefix_rfl, hrsp ▸ List.prefix_rfl⟩

theorem Onward.waitAt (p : Phase) (s : State) : Onward s (s.waitAt p) := .of_eq rfl rfl rfl

theorem Onward.wrote (es : List DoutEvent) (s : State) : Onward s (s.wrote es) :=
  ⟨List.suffix_rfl, List.prefix_append _ _, List.prefix_rfl⟩

theorem Onward.answered (ws : List Word) (s : State) : Onward s (s.answered ws) :=
  ⟨List.suffix_rfl, List.prefix_rfl, List.prefix_append _ _⟩

theorem Onward.raise (f : Fault) (s : State) : Onward s (s.raise f) := .of_eq rfl rfl rfl

theorem Onward.complete (s : State) : Onward s s.complete := .of_eq rfl rfl rfl

theorem Onward.freeWork (u : StreamUnit) (s : State) : Onward s (s.freeWork u) :=
  .of_eq (by simp) (by simp) (by simp)

/-- What comes after a move that put nothing out and at most took from DIN. -/
theorem Onward.after {s t u : State} (h : Onward t u) (hdin : t.din <:+ s.din) (hdout : t.dout = s.dout)
    (hrsp : t.rsp = s.rsp) : Onward s u :=
  ⟨h.din.trans hdin, hdout ▸ h.dout, hrsp ▸ h.rsp⟩

/-! ## The ends of a stream command -/

theorem release_onward (u : StreamUnit) (f : Fault) (s : State) : Onward s (s.release u f) := by
  rw [release_eq]
  cases s.sinkAt 0 with
  | none => exact .waitAt _ s
  | some a => exact ((Onward.wrote _ s).trans (.raise f _)).trans (.freeWork u _)

theorem finish_onward (u : StreamUnit) (s : State) : Onward s (s.finish u) := by
  rw [finish_eq]
  cases s.sinkAt 0 with
  | none => exact .waitAt _ s
  | some a => cases a with
    | ok => exact ((Onward.wrote _ s).trans (.complete _)).trans (.freeWork u _)
    | err => exact ((Onward.wrote _ s).trans (.raise .streamOut _)).trans (.freeWork u _)

theorem drainTokens_onward (u : StreamUnit) (f : Fault) (ts : List DinToken) (s : State) :
    Onward (s.setDin ts) (drainTokens u f ts s) := by
  induction ts with
  | nil => exact .waitAt _ _
  | cons t ts ih =>
    have htake : Onward (s.setDin (t :: ts)) (s.setDin ts) :=
      ⟨List.suffix_cons t ts, List.prefix_rfl, List.prefix_rfl⟩
    cases t with
    | byte b => exact htake.trans ih
    | endTok => exact htake.trans (release_onward u f _)
    | errTok => exact htake.trans (release_onward u f _)

theorem drain_onward (u : StreamUnit) (f : Fault) (s : State) : Onward s (s.drain u f) :=
  drainTokens_onward u f s.din s

/-! ## CPROC -/

theorem writeOn_onward_of (m : Mode) (k : Nat) {s : State}
    (hread : ∀ t : State, Onward (t.setDin s.din) (readTokens m s.din t)) : Onward s (s.writeOn m k) := by
  obtain ⟨r, es, hsend, -⟩ := sendBytes_eq_wrote ((storeHalves (s.cipher.a, s.cipher.b)).drop k) s
  rw [writeOn_eq, hsend]
  refine (Onward.wrote es s).trans ?_
  cases r with
  | done =>
    by_cases he : s.cipher.eos = true
    · simpa [he] using finish_onward .cipher (s.wrote es)
    · simpa [he, State.readOn] using (hread (s.wrote es).startBlock).after (s := s.wrote es) List.suffix_rfl rfl rfl
  | refused =>
    by_cases he : s.cipher.eos = true
    · simpa [he] using release_onward .cipher .streamOut (s.wrote es)
    · simpa [he] using drain_onward .cipher .streamOut (s.wrote es)
  | waiting left => exact .waitAt _ _

theorem readTokens_onward (m : Mode) (ts : List DinToken) (s : State) :
    Onward (s.setDin ts) (readTokens m ts s) := by
  induction ts generalizing s with
  | nil => exact .waitAt _ _
  | cons t ts ih =>
    cases t with
    | byte b =>
      rw [readTokens_byte]
      split
      · exact (ih (s.takeByte b)).after (List.suffix_cons _ ts) rfl rfl
      · have hwrite := writeOn_onward_of m 0 (s := ((s.takeByte b).transform m).setDin ts) ih
        exact hwrite.after (List.suffix_cons _ ts) rfl rfl
    | endTok =>
      rw [readTokens_endTok]
      split
      · exact (finish_onward .cipher (s.markEnd.setDin ts)).after (List.suffix_cons _ ts) rfl rfl
      · have hwrite := writeOn_onward_of m 0 (s := (s.markEnd.transform m).setDin ts) ih
        exact hwrite.after (List.suffix_cons _ ts) rfl rfl
    | errTok => exact (release_onward .cipher .streamIn (s.setDin ts)).after (List.suffix_cons _ ts) rfl rfl

theorem process_onward (m : Mode) (s : State) : Onward s (s.process m) := by
  unfold State.process
  split
  · exact (readTokens_onward m s.din s.startBlock).after List.suffix_rfl rfl rfl
  · exact .raise .keyUnset s

/-! ## HDIGEST -/

theorem sendDigest_onward (k : Nat) (s : State) : Onward s (s.sendDigest k) := by
  obtain ⟨r, es, hsend, -⟩ := sendBytes_eq_wrote ((digestBytes s.hsize s.hash.h).drop k) s
  rw [State.sendDigest, hsend]
  refine (Onward.wrote es s).trans ?_
  cases r with
  | done => exact finish_onward .hash _
  | refused => exact release_onward .hash .streamOut _
  | waiting left => exact .waitAt _ _

theorem copyTokens_onward (ts : List DinToken) (s : State) : Onward (s.setDin ts) (copyTokens ts s) := by
  induction ts generalizing s with
  | nil => exact .waitAt _ _
  | cons t ts ih =>
    cases t with
    | byte b =>
      rw [copyTokens]
      split
      · exact (drain_onward .hash .msgOverflow (s.setDin ts)).after (List.suffix_cons _ ts) rfl rfl
      · exact (ih (s.storeByte b)).after (List.suffix_cons _ ts) rfl rfl
    | endTok => exact (sendDigest_onward 0 (s.setDin ts).computeDigest).after (List.suffix_cons _ ts) rfl rfl
    | errTok => exact (release_onward .hash .streamIn (s.setDin ts)).after (List.suffix_cons _ ts) rfl rfl

/-! ## The commands on RSP -/

theorem sendKey_onward (j : Nat) (s : State) : Onward s (s.sendKey j) := by
  obtain ⟨pre, post, -, hsend, -⟩ := sendRsp_spec (s.key.toList.drop j) s
  rw [State.sendKey, hsend]
  refine (Onward.answered pre s).trans ?_
  cases post.length with
  | zero => exact .complete _
  | succ n => exact .waitAt _ _

theorem sendStatus_onward (s : State) : Onward s s.sendStatus := by
  rw [State.sendStatus, rspWrite_eq]
  by_cases hfull : s.rspRoom = some 0
  · simpa [hfull] using Onward.waitAt .stat s
  · simpa [hfull] using (Onward.answered [s.status] s).trans (.waitAt .idle _)

/-! ## Every command, and every step -/

theorem exec_onward {i : Instr} {s t : State} (h : exec i s = .next t) : Onward s t := by
  cases i with
  | stat => cases h; exact sendStatus_onward s
  | setkey k => cases h; exact .of_eq rfl rfl rfl
  | getkey =>
    simp only [exec, execGetkey] at h
    split at h <;> cases h
    · exact sendKey_onward 0 s
    · exact .raise .keyUnset s
  | cprocUnset => cases h; exact .raise .cfgMode s
  | cprocEnc => cases h; exact process_onward .enc s
  | cprocDec => cases h; exact process_onward .dec s
  | cprocBad => cases h; exact .raise .cfgMode s
  | hdigest => cases h; exact (copyTokens_onward s.din s.startMessage).after List.suffix_rfl rfl rfl

theorem resume_onward (s : State) : Onward s s.resume := by
  unfold State.resume
  cases s.phase with
  | idle => exact .of_eq rfl rfl rfl
  | payload got => exact .of_eq rfl rfl rfl
  | stat => exact sendStatus_onward s
  | getkey j => exact sendKey_onward j s
  | read m => exact readTokens_onward m s.din s
  | write m k => exact writeOn_onward_of m k (readTokens_onward m s.din)
  | copy => exact copyTokens_onward s.din s
  | digest k => exact sendDigest_onward k s
  | lastEnd u => exact finish_onward u s
  | drain u f => exact drain_onward u f s
  | release u f => exact release_onward u f s

theorem turn_onward {s t : State} (h : Turn s t) : Onward s t := by
  cases h with
  | noWord => exact .of_eq rfl rfl rfl
  | illegal => exact .of_eq rfl rfl rfl
  | payload => exact .of_eq rfl rfl rfl
  | starts i rest _ _ he => exact (exec_onward he).after List.suffix_rfl rfl rfl
  | setkey => exact .of_eq rfl rfl rfl
  | resumes => exact resume_onward s

theorem step_onward {s t : State} (h : step s = .next t) : Onward s t := by
  rcases resetMove_or_turn h with rfl | hturn
  · exact .of_eq rfl rfl rfl
  · exact turn_onward hturn

theorem step_cmd_suffix {s t : State} (hinv : s.PhaseInv) (h : step s = .next t) : t.cmd <:+ s.cmd := by
  rcases resetMove_or_turn h with rfl | hturn
  · exact List.suffix_rfl
  · exact turn_cmd_suffix hinv hturn

/-- Settles O55: a reset moves no port, and every move of a command takes from the front of DIN and adds to DOUT and
RSP; the decoder takes from the front of CMD. -/
theorem portsKeepOrder : Obligations.PortsKeepOrder := by
  intro s t h
  obtain ⟨⟨taken, hdin⟩, ⟨written, hdout⟩, ⟨answers, hrsp⟩⟩ := step_onward h
  refine ⟨fun hinv => ?_, ⟨taken, hdin.symm⟩, ⟨written, hdout.symm⟩, answers, hrsp.symm⟩
  obtain ⟨-, -, hphase⟩ := hinv
  obtain ⟨words, hcmd⟩ := step_cmd_suffix hphase h
  exact ⟨words, hcmd.symm⟩

end Sys2Proof.Machine
end

section
/-! More tokens and more answers offered to a stream command (R31, R46): what it has done stays, and where it waits it
goes on to what it does when all is offered at once. -/

namespace Sys2Proof.Machine

section
variable (ys : List DinToken) (bs : List Answer) (a : Option Answer)

/-! ## The offers pass through the other updates -/

@[simp] theorem setDin_offerMore (s : State) (ts : List DinToken) :
    (s.offerMore ys bs a).setDin (ts ++ ys) = (s.setDin ts).offerMore ys bs a := rfl
@[simp] theorem takeByte_offerMore (s : State) (b : Byte) :
    (s.offerMore ys bs a).takeByte b = (s.takeByte b).offerMore ys bs a := rfl
@[simp] theorem markEnd_offerMore (s : State) :
    (s.offerMore ys bs a).markEnd = s.markEnd.offerMore ys bs a := rfl
@[simp] theorem startBlock_offerMore (s : State) :
    (s.offerMore ys bs a).startBlock = s.startBlock.offerMore ys bs a := rfl
@[simp] theorem transform_offerMore (s : State) (m : Mode) :
    (s.offerMore ys bs a).transform m = (s.transform m).offerMore ys bs a := rfl
@[simp] theorem storeByte_offerMore (s : State) (b : Byte) :
    (s.offerMore ys bs a).storeByte b = (s.storeByte b).offerMore ys bs a := rfl
@[simp] theorem raise_offerMore (s : State) (f : Fault) :
    (s.offerMore ys bs a).raise f = (s.raise f).offerMore ys bs a := rfl
@[simp] theorem complete_offerMore (s : State) :
    (s.offerMore ys bs a).complete = s.complete.offerMore ys bs a := rfl
@[simp] theorem freeWork_offerMore (s : State) (u : StreamUnit) :
    (s.offerMore ys bs a).freeWork u = (s.freeWork u).offerMore ys bs a := by cases u <;> rfl

/-- A command that has ended leaves later offers as they are. -/
theorem resume_offerMore_of_idle {s : State} (h : s.phase = .idle) :
    (s.offerMore ys bs a).resume = s.offerMore ys bs a := by
  rw [State.resume, State.offerMore_phase, h]

/-! ## The answers the sink had given are given first -/

variable {bs a} {s : State} (hc : s.CanAnswer bs a)
include hc

theorem sinkAt_offerMore {j : Nat} {x : Answer} (h : s.sinkAt j = some x) :
    (s.offerMore ys bs a).sinkAt j = some x := by
  rcases hc with ⟨rfl, rfl⟩ | hstop
  · simpa [State.sinkAt] using h
  · have hj : s.sink[j]? = some x := by simpa [State.sinkAt, hstop] using h
    obtain ⟨hlt, -⟩ := List.getElem?_eq_some_iff.1 hj
    simp [State.sinkAt, List.getElem?_append_left hlt, hj]

theorem wrote_offerMore {x : Answer} (h : s.sinkAt 0 = some x) (e : DoutEvent) :
    (s.offerMore ys bs a).wrote [e] = (s.wrote [e]).offerMore ys bs a := by
  have hdrop : (s.sink ++ bs).drop 1 = s.sink.drop 1 ++ bs := by
    rcases hc with ⟨rfl, -⟩ | hstop
    · simp
    · have h0 : s.sink[0]? = some x := by simpa [State.sinkAt, hstop] using h
      obtain ⟨hlt, -⟩ := List.getElem?_eq_some_iff.1 h0
      exact List.drop_append_of_le_length hlt
  simp [State.wrote, State.offerMore, hdrop]

/-! ## The ends of a stream command -/

theorem release_offerMore (u : StreamUnit) (f : Fault) :
    (s.offerMore ys bs a).release u f = ((s.release u f).offerMore ys bs a).resume := by
  cases h : s.sinkAt 0 with
  | none =>
    have hwait : s.release u f = s.waitAt (.release u f) := by rw [release_eq, h]
    rw [hwait]
    exact (release_waitAt u f (s.offerMore ys bs a) _).symm
  | some x =>
    rw [release_eq, release_eq, h, sinkAt_offerMore ys hc h]
    simp only [wrote_offerMore ys hc h, raise_offerMore, freeWork_offerMore]
    exact (resume_offerMore_of_idle ys bs a (by simp)).symm

theorem finish_offerMore (u : StreamUnit) :
    (s.offerMore ys bs a).finish u = ((s.finish u).offerMore ys bs a).resume := by
  cases h : s.sinkAt 0 with
  | none =>
    have hwait : s.finish u = s.waitAt (.lastEnd u) := by rw [finish_eq, h]
    rw [hwait]
    exact (finish_waitAt u (s.offerMore ys bs a) _).symm
  | some x =>
    rw [finish_eq, finish_eq, h, sinkAt_offerMore ys hc h]
    cases x with
    | ok =>
      simp only [wrote_offerMore ys hc h, complete_offerMore, freeWork_offerMore]
      exact (resume_offerMore_of_idle ys bs a (by simp)).symm
    | err =>
      simp only [wrote_offerMore ys hc h, raise_offerMore, freeWork_offerMore]
      exact (resume_offerMore_of_idle ys bs a (by simp)).symm

theorem drainTokens_offerMore (u : StreamUnit) (f : Fault) (ts : List DinToken) :
    drainTokens u f (ts ++ ys) (s.offerMore ys bs a) = ((drainTokens u f ts s).offerMore ys bs a).resume := by
  induction ts with
  | nil =>
    have hwait := drainTokens_waitAt u f ys ((s.offerMore ys bs a).setDin ys) (.drain u f)
    exact (hwait.trans (drainTokens_setDin u f ys ys _)).symm
  | cons t ts ih => cases t with
    | byte b => exact ih
    | endTok => exact release_offerMore ys (s := s.setDin ts) hc u f
    | errTok => exact release_offerMore ys (s := s.setDin ts) hc u f

theorem drain_offerMore (u : StreamUnit) (f : Fault) :
    (s.offerMore ys bs a).drain u f = ((s.drain u f).offerMore ys bs a).resume :=
  drainTokens_offerMore ys hc u f s.din

end

/-! ## A run of DOUT writes -/

/-- A run of writes of `xs` that ended so goes on from `t`, where more answers are offered. -/
def Sent.goOn (xs : List Byte) (t : State) : Sent → Sent × State
  | .done => (.done, t)
  | .refused => (.refused, t)
  | .waiting left => sendBytes (xs.drop (xs.length - left)) t

theorem SentBy.left_le {xs : List Byte} {es : List DoutEvent} {left : Nat} (h : SentBy xs es (.waiting left)) :
    left ≤ xs.length := by
  obtain ⟨pre, post, rfl, -, rfl, -⟩ := h
  simp

/-- A byte more at the front, already written, changes nothing in how the run goes on. -/
theorem SentBy.goOn_cons {xs : List Byte} {es : List DoutEvent} {r : Sent} (h : SentBy xs es r) (b : Byte)
    (t : State) : r.goOn (b :: xs) t = r.goOn xs t := by
  cases r with
  | done => rfl
  | refused => rfl
  | waiting left =>
    have hdrop : (b :: xs).length - left = xs.length - left + 1 := by
      have hleft := h.left_le
      simp only [List.length_cons]
      omega
    rw [Sent.goOn, Sent.goOn, hdrop, List.drop_succ_cons]

theorem sendBytes_offerMore (ys : List DinToken) {bs : List Answer} {a : Option Answer} {s : State}
    (hc : s.CanAnswer bs a) (xs : List Byte) :
    sendBytes xs (s.offerMore ys bs a) =
      (sendBytes xs s).1.goOn xs ((sendBytes xs s).2.offerMore ys bs a) := by
  induction xs generalizing s with
  | nil => rfl
  | cons b xs ih =>
    cases h : s.sinkAt 0 with
    | none =>
      have hwait : sendBytes (b :: xs) s = (.waiting (xs.length + 1), s) := by simp [sendBytes, doutWrite_eq, h]
      simp [hwait, Sent.goOn]
    | some x =>
      cases x with
      | err => simp [sendBytes, doutWrite_eq, h, sinkAt_offerMore ys hc h, wrote_offerMore ys hc h, Sent.goOn]
      | ok =>
        obtain ⟨r, es, hsend, hby⟩ := sendBytes_eq_wrote xs (s.wrote [{ token := .byte b, answer := .ok }])
        have hrest := ih (s := s.wrote [{ token := .byte b, answer := .ok }]) hc
        simp only [sendBytes, doutWrite_eq, h, sinkAt_offerMore ys hc h, wrote_offerMore ys hc h, Option.map_some,
          hrest, hsend, hby.goOn_cons]

/-! ## CPROC -/

section
variable (ys : List DinToken) {bs : List Answer} {a : Option Answer}

/-- The block is written in pieces as at once, when the reading that follows is. -/
theorem writeOn_offerMore_of (m : Mode) (k : Nat) {s : State} (hc : s.CanAnswer bs a)
    (hread : ∀ t : State, t.CanAnswer bs a →
      readTokens m (s.din ++ ys) (t.offerMore ys bs a) = ((readTokens m s.din t).offerMore ys bs a).resume) :
    (s.offerMore ys bs a).writeOn m k = ((s.writeOn m k).offerMore ys bs a).resume := by
  obtain ⟨r, es, hsend, hby⟩ := sendBytes_eq_wrote ((storeHalves (s.cipher.a, s.cipher.b)).drop k) s
  have hmore := sendBytes_offerMore ys hc ((storeHalves (s.cipher.a, s.cipher.b)).drop k)
  have hcw : (s.wrote es).CanAnswer bs a := hc
  rw [hsend] at hmore
  rw [writeOn_eq, writeOn_eq, State.offerMore_cipher, hmore, hsend]
  cases r with
  | done =>
    by_cases he : s.cipher.eos = true
    · simpa [Sent.goOn, he] using finish_offerMore ys hcw .cipher
    · simpa [Sent.goOn, he, State.readOn] using hread (s.wrote es).startBlock hcw
  | refused =>
    by_cases he : s.cipher.eos = true
    · simpa [Sent.goOn, he] using release_offerMore ys hcw .cipher .streamOut
    · simpa [Sent.goOn, he] using drain_offerMore ys hcw .cipher .streamOut
  | waiting left =>
    have hlen : ((storeHalves (s.cipher.a, s.cipher.b)).drop k).length = 8 - k := List.length_drop
    have hleft := hby.left_le
    have hpos := hby.left_pos
    have hdrop : k + (8 - k - left) = 8 - left := by omega
    rw [Sent.goOn, hlen, List.drop_drop, hdrop]
    exact ((writeOn_waitAt m _ ((s.wrote es).offerMore ys bs a) _).trans (writeOn_eq m _ _)).symm

theorem readTokens_offerMore (m : Mode) (ts : List DinToken) {s : State} (hc : s.CanAnswer bs a) :
    readTokens m (ts ++ ys) (s.offerMore ys bs a) = ((readTokens m ts s).offerMore ys bs a).resume := by
  induction ts generalizing s with
  | nil =>
    have hwait := readTokens_waitAt m ys ((s.offerMore ys bs a).setDin ys) (.read m)
    exact (hwait.trans (readTokens_setDin m ys ys _)).symm
  | cons t ts ih =>
    rw [List.cons_append]
    cases t with
    | byte b =>
      have hw := writeOn_offerMore_of ys m 0 (s := ((s.takeByte b).transform m).setDin ts) hc fun _ ht => ih ht
      simp only [readTokens_byte, takeByte_offerMore, transform_offerMore, setDin_offerMore, State.offerMore_cipher,
        ih (s := s.takeByte b) hc, hw]
      split <;> rfl
    | endTok =>
      have hw := writeOn_offerMore_of ys m 0 (s := (s.markEnd.transform m).setDin ts) hc fun _ ht => ih ht
      have hf := finish_offerMore ys (s := s.markEnd.setDin ts) hc .cipher
      simp only [readTokens_endTok, markEnd_offerMore, transform_offerMore, setDin_offerMore,
        State.offerMore_cipher, hf, hw]
      split <;> rfl
    | errTok => exact release_offerMore ys (s := s.setDin ts) hc .cipher .streamIn

theorem process_offerMore (m : Mode) {s : State} (hc : s.CanAnswer bs a) :
    (s.offerMore ys bs a).process m = ((s.process m).offerMore ys bs a).resume := by
  rw [State.process, State.process, State.offerMore_keyv]
  by_cases hkey : s.keyv = true
  · rw [if_pos hkey, if_pos hkey]
    exact readTokens_offerMore ys m s.din (s := s.startBlock) hc
  · rw [if_neg hkey, if_neg hkey]
    exact (resume_offerMore_of_idle ys bs a (s := s.raise .keyUnset) rfl).symm

/-! ## HDIGEST -/

theorem sendDigest_offerMore (k : Nat) {s : State} (hc : s.CanAnswer bs a) :
    (s.offerMore ys bs a).sendDigest k = ((s.sendDigest k).offerMore ys bs a).resume := by
  obtain ⟨r, es, hsend, hby⟩ := sendBytes_eq_wrote ((digestBytes s.hsize s.hash.h).drop k) s
  have hmore := sendBytes_offerMore ys hc ((digestBytes s.hsize s.hash.h).drop k)
  have hcw : (s.wrote es).CanAnswer bs a := hc
  rw [hsend] at hmore
  rw [State.sendDigest, State.sendDigest, State.offerMore_hsize, State.offerMore_hash, hmore, hsend]
  cases r with
  | done => exact finish_offerMore ys hcw .hash
  | refused => exact release_offerMore ys hcw .hash .streamOut
  | waiting left =>
    have hlen : ((digestBytes s.hsize s.hash.h).drop k).length = digestLength s.hsize - k := by
      rw [List.length_drop, digestBytes_length]
    have hleft := hby.left_le
    have hpos := hby.left_pos
    have hdrop : k + (digestLength s.hsize - k - left) = digestLength s.hsize - left := by omega
    rw [Sent.goOn, hlen, List.drop_drop, hdrop]
    exact (sendDigest_waitAt _ ((s.wrote es).offerMore ys bs a) _).symm

theorem copyTokens_offerMore (ts : List DinToken) {s : State} (hc : s.CanAnswer bs a) :
    copyTokens (ts ++ ys) (s.offerMore ys bs a) = ((copyTokens ts s).offerMore ys bs a).resume := by
  induction ts generalizing s with
  | nil =>
    have hwait := copyTokens_waitAt ys ((s.offerMore ys bs a).setDin ys) .copy
    exact (hwait.trans (copyTokens_setDin ys ys _)).symm
  | cons t ts ih =>
    rw [List.cons_append]
    cases t with
    | byte b =>
      have hd := drain_offerMore ys (s := s.setDin ts) hc .hash .msgOverflow
      simp only [copyTokens, setDin_offerMore, storeByte_offerMore, State.offerMore_cfg, State.offerMore_len, hd,
        ih (s := s.storeByte b) hc]
      split <;> rfl
    | endTok => exact sendDigest_offerMore ys 0 (s := (s.setDin ts).computeDigest) hc
    | errTok => exact release_offerMore ys (s := s.setDin ts) hc .hash .streamIn

end

/-! ## The commands -/

theorem exec_cprocOf (m : Mode) (s : State) : exec (cprocOf m) s = .next (s.process m) := by
  cases m <;> rfl

/-- Settles O32: every transfer of `ProcessStream` goes on from its wait as it does when all is offered at once. -/
theorem cprocInputInPieces : Obligations.CprocInputInPieces := by
  intro m s t ys bs a hc h
  rw [exec_cprocOf] at h ⊢
  cases h
  exact congrArg Host.Outcome.next (process_offerMore ys m hc)

/-- Settles O44: every transfer of HDIGEST goes on from its wait as it does when all is offered at once. -/
theorem hdigestInputInPieces : Obligations.HdigestInputInPieces := by
  intro s t ys bs a hc h
  cases h
  exact congrArg Host.Outcome.next (copyTokens_offerMore ys s.din (s := s.startMessage) hc)

end Sys2Proof.Machine
end

section
/-! A run of DOUT writes by the sink's answers (R31, R46, R128), and what is discarded of a packet. -/

namespace Sys2Proof.Machine

theorem sinkAt_wrote_okBytes (s : State) (bs : List Byte) (j : Nat) :
    (s.wrote (okBytes bs)).sinkAt j = s.sinkAt (bs.length + j) := by
  rw [sinkAt_wrote, okBytes, List.length_map]

theorem okBytes_append (bs cs : List Byte) : okBytes (bs ++ cs) = okBytes bs ++ okBytes cs := List.map_append

/-- The sink's `ok` answers after those to the writes made. -/
theorem State.SinkOk.wrote {s : State} {n k : Nat} (h : s.SinkOk (n + k)) {es : List DoutEvent} (hes : es.length = n) :
    (s.wrote es).SinkOk k := fun j hj => by
  rw [sinkAt_wrote, hes]
  exact h (n + j) (by omega)

theorem State.SinkOk.mono {s : State} {n k : Nat} (h : s.SinkOk n) (hk : k ≤ n) : s.SinkOk k :=
  fun j hj => h j (hj.trans_le hk)

theorem sendBytes_append {pre : List Byte} {s : State} (h : s.SinkOk pre.length) (post : List Byte) :
    sendBytes (pre ++ post) s = sendBytes post (s.wrote (okBytes pre)) := by
  induction pre generalizing s with
  | nil => rw [okBytes, List.map_nil, wrote_nil, List.nil_append]
  | cons b pre ih =>
    have h0 : s.sinkAt 0 = some .ok := h 0 (by simp)
    have hlen : s.SinkOk (1 + pre.length) := h.mono (by simp [Nat.add_comm])
    have hrest : (s.wrote [{ token := .byte b, answer := .ok }]).SinkOk pre.length := hlen.wrote rfl
    simp [sendBytes, doutWrite_eq, h0, ih hrest, wrote_wrote, okBytes]

section
variable {bs : List Byte} {s : State} {j : Nat} (hok : s.SinkOk j) (hj : j < bs.length)
include hok hj

/-- The bytes before the first that is not answered `ok` go out. -/
theorem sendBytes_split :
    sendBytes bs s = sendBytes (bs.getD j 0 :: bs.drop (j + 1)) (s.wrote (okBytes (bs.take j))) ∧
      (s.wrote (okBytes (bs.take j))).sinkAt 0 = s.sinkAt j := by
  have hlen : (bs.take j).length = j := List.length_take_of_le hj.le
  constructor
  · have hdrop : bs.getD j 0 :: bs.drop (j + 1) = bs.drop j := by
      rw [List.getD_eq_getElem _ _ hj, List.drop_eq_getElem_cons hj]
    rw [hdrop, ← sendBytes_append (hlen.symm ▸ hok), List.take_append_drop]
  · rw [sinkAt_wrote_okBytes, hlen, Nat.add_zero]

/-- R46: the sink does not take byte `j`. -/
theorem sendBytes_waiting (hnone : s.sinkAt j = none) :
    sendBytes bs s = (.waiting (bs.length - j), s.wrote (okBytes (bs.take j))) := by
  obtain ⟨hsend, hsink⟩ := sendBytes_split hok hj
  rw [hsend, sendBytes, doutWrite_eq, hsink, hnone, List.length_drop]
  simp only [Option.map_none, Prod.mk.injEq, Sent.waiting.injEq, and_true]
  omega

/-- R128: the sink refuses byte `j`. -/
theorem sendBytes_refused (herr : s.sinkAt j = some .err) :
    sendBytes bs s = (.refused, s.wrote (okBytes (bs.take j) ++ [refusedByte (bs.getD j 0)])) := by
  obtain ⟨hsend, hsink⟩ := sendBytes_split hok hj
  rw [hsend, sendBytes, doutWrite_eq, hsink, herr]
  simp [wrote_wrote, refusedByte]

end

/-! ## The release of the channels -/

/-- R46: the sink does not take the `End` of a release. -/
theorem release_waits {s : State} (h : s.sinkAt 0 = none) (u : StreamUnit) (f : Fault) :
    s.release u f = s.waitAt (.release u f) := by
  rw [release_eq, h]

/-- R46: the sink does not take the final `End`. -/
theorem finish_waits {s : State} (h : s.sinkAt 0 = none) (u : StreamUnit) : s.finish u = s.waitAt (.lastEnd u) := by
  rw [finish_eq, h]

theorem byteTokens_split (n : Nat) (bs : List Byte) :
    byteTokens bs = byteTokens (bs.take n) ++ byteTokens (bs.drop n) := by
  rw [byteTokens, byteTokens, byteTokens, ← List.map_append, List.take_append_drop]

theorem drainTokens_byteTokens (u : StreamUnit) (f : Fault) (bs : List Byte) (ts : List DinToken) (s : State) :
    drainTokens u f (byteTokens bs ++ ts) s = drainTokens u f ts s := by
  induction bs with
  | nil => rfl
  | cons b bs ih => exact ih

/-- R128, R130: the packet is discarded through its `End` or `Err`. -/
theorem drain_packet {bs : List Byte} {ts : List DinToken} {s : State}
    (h : s.din = packet bs ts ∨ s.din = brokenPacket bs ts) (u : StreamUnit) (f : Fault) :
    s.drain u f = (s.setDin ts).release u f := by
  rcases h with h | h <;>
    · rw [State.drain, h]
      exact drainTokens_byteTokens u f bs _ s

end Sys2Proof.Machine
end

section
/-! HDIGEST's message in the buffer, and the digest read off it (R33, R100 to R106). -/

namespace Sys2Proof.Machine

/-! ## The copy loop -/

/-- R33: the bytes of a store are read back at their addresses, and every other address reads as before. -/
theorem memByte_memWrite {m : Memory} (hm : Memory.wf m) (a : Nat) (bs : List Byte) (x : Nat) :
    memByte (memWrite m a bs) x = if a ≤ x ∧ x < a + bs.length then bs.getD (x - a) 0 else memByte m x := by
  induction bs generalizing m a with
  | nil => simp [memWrite]
  | cons b bs ih =>
    rw [memWrite, ih (memPut_wf hm), memByte_memPut hm, List.length_cons]
    rcases lt_trichotomy x a with hlt | rfl | hgt
    · rw [if_neg (by omega), if_neg (by omega), if_neg (by omega)]
    · rw [if_neg (by omega), if_pos rfl, if_pos (by omega), Nat.sub_self, List.getD_cons_zero]
    · have hx : x - a = x - (a + 1) + 1 := by omega
      rw [if_neg (show x ≠ a by omega), hx, List.getD_cons_succ]
      refine if_congr ?_ rfl rfl
      omega

/-- Several bytes stored from `LEN` on (R100). -/
def State.storeBytes (bs : List Byte) (s : State) : State :=
  { s with msg := memWrite s.msg s.len bs, len := s.len + bs.length }

theorem storeBytes_cons (b : Byte) (bs : List Byte) (s : State) :
    s.storeBytes (b :: bs) = (s.storeByte b).storeBytes bs := by
  simp [State.storeBytes, State.storeByte, memWrite, Nat.add_assoc, Nat.add_comm]

/-- R100: bytes that fit are stored one after the other. -/
theorem copyTokens_byteTokens {bs : List Byte} {s : State} (hfit : s.len + bs.length ≤ s.cfg.msgMax)
    (ts : List DinToken) : copyTokens (byteTokens bs ++ ts) s = copyTokens ts (s.storeBytes bs) := by
  induction bs generalizing s with
  | nil => rfl
  | cons b bs ih =>
    rw [List.length_cons] at hfit
    have hroom : ¬ s.cfg.msgMax ≤ s.len := by omega
    have hrest : (s.storeByte b).len + bs.length ≤ (s.storeByte b).cfg.msgMax := by
      simp only [State.storeByte_len, State.storeByte_cfg]
      omega
    rw [storeBytes_cons, ← ih hrest]
    exact if_neg hroom

/-- The state of an HDIGEST that has copied the message `bs`. -/
def State.copied (bs : List Byte) (s : State) : State := s.startMessage.storeBytes bs

theorem copied_len (bs : List Byte) (s : State) : (s.copied bs).len = bs.length := Nat.zero_add _

theorem memByte_copied {s : State} (hm : Memory.wf s.msg) (bs : List Byte) (x : Nat) :
    memByte (s.copied bs).msg x = if x < bs.length then bs.getD x 0 else memByte s.msg x := by
  simpa [State.copied, State.storeBytes] using memByte_memWrite hm 0 bs x

section
variable {s : State} {bs : List Byte}

theorem exec_hdigest_copied {ts : List DinToken} (hfit : bs.length ≤ s.cfg.msgMax)
    (hdin : s.din = byteTokens bs ++ ts) : exec .hdigest s = .next (copyTokens ts (s.copied bs)) := by
  have hbytes := copyTokens_byteTokens (s := s.startMessage) (by simpa using hfit) ts
  rw [← hdin] at hbytes
  exact congrArg Host.Outcome.next hbytes

/-- R130: the byte that finds the buffer full, and the rest of the packet with it, is discarded. -/
theorem exec_hdigest_overflow {ts : List DinToken} (hfull : s.cfg.msgMax < bs.length)
    (hdin : s.din = packet bs ts ∨ s.din = brokenPacket bs ts) :
    exec .hdigest s = .next (((s.copied (bs.take s.cfg.msgMax)).setDin ts).release .hash .msgOverflow) := by
  have hlen : (bs.take s.cfg.msgMax).length = s.cfg.msgMax := List.length_take_of_le hfull.le
  have hsplit (tail : List DinToken) : byteTokens bs ++ tail =
      byteTokens (bs.take s.cfg.msgMax) ++
        .byte bs[s.cfg.msgMax] :: (byteTokens (bs.drop (s.cfg.msgMax + 1)) ++ tail) := by
    rw [byteTokens_split s.cfg.msgMax bs, List.append_assoc, List.drop_eq_getElem_cons hfull]
    rfl
  have hcopied (tail : List DinToken) (h : s.din = byteTokens bs ++ tail) : exec .hdigest s =
      .next (((s.copied (bs.take s.cfg.msgMax)).setDin (byteTokens (bs.drop (s.cfg.msgMax + 1)) ++ tail)).drain
        .hash .msgOverflow) := by
    rw [exec_hdigest_copied hlen.le (h.trans (hsplit tail)), copyTokens, if_pos]
    exact (copied_len _ s ▸ hlen).ge
  rcases hdin with hdin | hdin
  · rw [hcopied _ hdin, drain_packet (.inl rfl)]
    rfl
  · rw [hcopied _ hdin, drain_packet (.inr rfl)]
    rfl

end

/-- Settles O43: the message so far is stored, and the copy loop waits. -/
theorem hdigestReadsBeforeWriting : Obligations.HdigestReadsBeforeWriting := by
  intro s bs hm hdin hfit
  exact ⟨_, exec_hdigest_copied (ts := []) hfit (by rw [hdin, List.append_nil]), rfl, rfl, rfl, copied_len bs s,
    memByte_copied hm bs, rfl, rfl, rfl, ⟨rfl, rfl⟩, ⟨rfl, rfl, rfl, rfl, rfl⟩, ⟨rfl, rfl⟩, rfl⟩

/-! ## The digest of the buffer is the digest of the message -/

/-- The buffer holds the message `bs` from address 0 on. -/
def HoldsMessage (m : Memory) (bs : List Byte) : Prop := ∀ a < bs.length, memByte m a = bs.getD a 0

theorem copied_holdsMessage {s : State} (hm : Memory.wf s.msg) (bs : List Byte) :
    HoldsMessage (s.copied bs).msg bs := fun a ha => by
  rw [memByte_copied hm, if_pos ha]

theorem HoldsMessage.memRead_eq {m : Memory} {bs : List Byte} (h : HoldsMessage m bs) {addr n : Nat}
    (hn : addr + n ≤ bs.length) : memRead m addr n = (bs.drop addr).take n := by
  refine List.ext_getElem (by simp [memRead]; omega) fun i hi _ => ?_
  have hi' : i < n := by simpa [memRead] using hi
  have hlt : addr + i < bs.length := by omega
  simp [memRead, h _ hlt, hlt]

/-- What steps 1 to 4 of a digest hand on: `H`, `N`, `SIGMA` (R101 to R104). -/
def HashRegs.sums (r : HashRegs) : Vec × Vec × Vec := (r.h, r.n, r.sigma)

/-- R102: step 2 absorbs the message's chunks from its tail. -/
theorem absorbChunks_sums (c : Config) (hs : HSize) {msg : Memory} {bs : List Byte} (hmsg : HoldsMessage msg bs)
    (q k : Nat) {r : HashRegs} (hq : 64 * (k + q) ≤ bs.length) (hr : r.sums = absorbed c hs bs k) :
    (absorbChunks c msg q (bs.length - 64 * k) r).sums = absorbed c hs bs (k + q) := by
  induction q generalizing k r with
  | zero => exact hr
  | succ q ih =>
    have hpos : bs.length - 64 * k - 64 = bs.length - 64 * (k + 1) := by omega
    have hchunk : vecOfBytes (memRead msg (bs.length - 64 * (k + 1)) 64) = tailChunk bs k :=
      congrArg vecOfBytes (hmsg.memRead_eq (by omega))
    have hnext : (r.chunk c (tailChunk bs k)).sums = absorbed c hs bs (k + 1) := by
      rw [absorbed, ← hr]
      rfl
    rw [absorbChunks, hpos, hchunk, ih (k + 1) (by omega) hnext]
    congr 1
    omega

/-- R101 to R106: the digest computed on a buffer that holds the message is the message's. -/
theorem digestBytes_digestRegs (c : Config) (hs : HSize) {msg : Memory} {bs : List Byte} (hmsg : HoldsMessage msg bs)
    (r : HashRegs) : digestBytes hs (digestRegs c hs msg bs.length r).h = messageDigest c hs bs := by
  have hchunks := absorbChunks_sums c hs hmsg (bs.length / 64) 0 (r := r.init hs) (by omega) rfl
  rw [Nat.mul_zero, Nat.sub_zero, Nat.zero_add] at hchunks
  have hhead : paddedBlock msg (bs.length % 64) = headBlock bs := by
    rw [paddedBlock, hmsg.memRead_eq (by omega), List.drop_zero, headBlock]
  rw [messageDigest, ← hchunks, digestRegs, HashRegs.pad, hhead]
  rfl

theorem messageDigest_length (c : Config) (hs : HSize) (bs : List Byte) :
    (messageDigest c hs bs).length = digestLength hs := digestBytes_length hs _

/-! ## The digest is written -/

section
variable {s : State} {ds : List Byte} (hds : digestBytes s.hsize s.hash.h = ds)
include hds

theorem sendDigest_all (hok : s.SinkOk (digestLength s.hsize)) :
    s.sendDigest 0 = (s.wrote (okBytes ds)).finish .hash := by
  have hlen : ds.length = digestLength s.hsize := hds ▸ digestBytes_length _ _
  rw [State.sendDigest, List.drop_zero, hds, sendBytes_ok (hlen.symm ▸ hok)]

variable {j : Nat} (hok : s.SinkOk j) (hj : j < digestLength s.hsize)
include hok hj

theorem sendDigest_waiting (hnone : s.sinkAt j = none) :
    s.sendDigest 0 = (s.wrote (okBytes (ds.take j))).waitAt (.digest j) := by
  have hlen : ds.length = digestLength s.hsize := hds ▸ digestBytes_length _ _
  have hback : digestLength s.hsize - (digestLength s.hsize - j) = j := Nat.sub_sub_self hj.le
  rw [State.sendDigest, List.drop_zero, hds, sendBytes_waiting hok (hlen.symm ▸ hj) hnone, hlen]
  exact congrArg (fun k => (s.wrote (okBytes (ds.take j))).waitAt (.digest k)) hback

theorem sendDigest_refused (herr : s.sinkAt j = some .err) :
    s.sendDigest 0 = (s.wrote (okBytes (ds.take j) ++ [refusedByte (ds.getD j 0)])).release .hash .streamOut := by
  have hlen : ds.length = digestLength s.hsize := hds ▸ digestBytes_length _ _
  rw [State.sendDigest, List.drop_zero, hds, sendBytes_refused hok (hlen.symm ▸ hj) herr]

end

/-! ## A packet that ends well -/

/-- The state of an HDIGEST that has copied the message `bs` and computed its digest, `ts` left on DIN. -/
def State.digested (bs : List Byte) (ts : List DinToken) (s : State) : State :=
  ((s.copied bs).setDin ts).computeDigest

@[simp] theorem sinkAt_digested (bs : List Byte) (ts : List DinToken) (s : State) (j : Nat) :
    (s.digested bs ts).sinkAt j = s.sinkAt j := rfl

theorem State.SinkOk.digested {s : State} {n : Nat} (h : s.SinkOk n) (bs : List Byte) (ts : List DinToken) :
    (s.digested bs ts).SinkOk n := h

/-- R100: a packet that ends well and fits leads to the digest of its message. -/
theorem exec_hdigest_packet {s : State} {bs : List Byte} {ts : List DinToken} (hfit : bs.length ≤ s.cfg.msgMax)
    (hdin : s.din = packet bs ts) : exec .hdigest s = .next ((s.digested bs ts).sendDigest 0) :=
  exec_hdigest_copied hfit hdin

theorem digestBytes_digested {s : State} (hm : Memory.wf s.msg) (bs : List Byte) (ts : List DinToken) :
    digestBytes (s.digested bs ts).hsize (s.digested bs ts).hash.h = messageDigest s.cfg s.hsize bs := by
  have h := digestBytes_digestRegs s.cfg s.hsize (copied_holdsMessage hm bs) s.hash
  rwa [← copied_len bs s] at h

end Sys2Proof.Machine
end

section
/-! The blocks of a stream (R74, R75, R78): their bytes, and the bytes of the stream before a given one. -/

namespace Sys2Proof.Machine

/-! ## The bytes of a block -/

theorem blockAt_getElem (bs : List Byte) (n i : Nat) (hi : i < 8) : (blockAt bs n)[i] = bs.getD (8 * n + i) 0 := by
  unfold blockAt
  interval_cases i <;> rfl

theorem blockAt_drop (bs : List Byte) (n : Nat) : blockAt (bs.drop (8 * n)) 0 = blockAt bs n := by
  refine Vector.ext fun i hi => ?_
  rw [blockAt_getElem _ _ i hi, blockAt_getElem _ _ i hi]
  simp [List.getD_eq_getElem?_getD]

theorem blockAt_take (bs : List Byte) : blockAt (bs.take 8) 0 = blockAt bs 0 := by
  refine Vector.ext fun i hi => ?_
  rw [blockAt_getElem _ _ i hi, blockAt_getElem _ _ i hi]
  simp [List.getD_eq_getElem?_getD, hi]

theorem blockAt_concat {pre : List Byte} (hlen : pre.length < 8) (b : Byte) :
    (blockAt pre 0).set pre.length b = blockAt (pre ++ [b]) 0 := by
  refine Vector.ext fun i hi => ?_
  rw [Vector.getElem_set, blockAt_getElem _ _ i hi, blockAt_getElem _ _ i hi, Nat.mul_zero, Nat.zero_add]
  rcases lt_trichotomy i pre.length with hlt | rfl | hgt
  · rw [if_neg hlt.ne', List.getD_append _ _ _ _ hlt]
  · simp
  · rw [if_neg hgt.ne, List.getD_eq_default _ _ hgt.le, List.getD_eq_default _ _ (by simp; omega)]

/-! ## The bytes of a stream -/

section
variable (cs : CSbox) (key : KeyWords) (m : Mode) (bs : List Byte)

theorem blockImage_length (x : Vector Byte 8) : (blockImage cs key m x).length = 8 := rfl

theorem blockImages_succ (n : Nat) :
    blockImages cs key m bs (n + 1) = blockImages cs key m bs n ++ blockImage cs key m (blockAt bs n) := by
  simp [blockImages, List.range_succ]

theorem blockImages_length (n : Nat) : (blockImages cs key m bs n).length = 8 * n := by
  induction n with
  | zero => rfl
  | succ n ih => rw [blockImages_succ, List.length_append, ih, blockImage_length]; omega

theorem streamImage_length : (streamImage cs key m bs).length = 8 * blockCount bs.length :=
  blockImages_length cs key m bs _

/-- Block `n` among the first `N`: the blocks before it, its own bytes, the blocks after it. -/
theorem blockImages_eq_append {n N : Nat} (h : n < N) :
    ∃ post, blockImages cs key m bs N =
      blockImages cs key m bs n ++ (blockImage cs key m (blockAt bs n) ++ post) := by
  induction N with
  | zero => omega
  | succ N ih =>
    rcases Nat.lt_succ_iff_lt_or_eq.1 h with hlt | rfl
    · obtain ⟨post, hpost⟩ := ih hlt
      exact ⟨_, by rw [blockImages_succ, hpost, List.append_assoc, List.append_assoc]⟩
    · exact ⟨[], by rw [blockImages_succ, List.append_nil]⟩

section
variable {j N : Nat} (hj : j < 8 * N)
include hj

/-- The bytes before byte `j`: those of the blocks before its block, and those before it in its block. -/
theorem take_blockImages :
    (blockImages cs key m bs N).take j =
      blockImages cs key m bs (j / 8) ++ (blockImage cs key m (blockAt bs (j / 8))).take (j % 8) := by
  obtain ⟨post, hpost⟩ := blockImages_eq_append cs key m bs (show j / 8 < N by omega)
  have hlen := blockImages_length cs key m bs (j / 8)
  have hrest : j - (blockImages cs key m bs (j / 8)).length = j % 8 := by omega
  rw [hpost, List.take_append, List.take_of_length_le (by omega), hrest,
    List.take_append_of_le_length (by rw [blockImage_length]; omega)]

theorem getD_blockImages :
    (blockImages cs key m bs N).getD j 0 = (blockImage cs key m (blockAt bs (j / 8))).getD (j % 8) 0 := by
  obtain ⟨post, hpost⟩ := blockImages_eq_append cs key m bs (show j / 8 < N by omega)
  have hlen := blockImages_length cs key m bs (j / 8)
  have hrest : j - (blockImages cs key m bs (j / 8)).length = j % 8 := by omega
  rw [hpost, List.getD_append_right _ _ _ _ (by omega), hrest,
    List.getD_append _ _ _ _ (by rw [blockImage_length]; omega)]

end

end

end Sys2Proof.Machine
end

section
/-! CPROC block by block (R74, R75, R78): what it has done when it comes to a given block, to the end of its packet, or
to a byte the sink does not take or refuses. -/

namespace Sys2Proof.Machine

/-! ## A block assembled in IBUF -/

/-- The block being assembled is `bs`, the rest of it zero, and `End` has not been taken (R75). -/
structure CipherRegs.Holds (bs : List Byte) (r : CipherRegs) : Prop where
  ibuf : r.ibuf = blockAt bs 0
  icnt : r.icnt.val = bs.length
  eos : r.eos = false

theorem CipherRegs.Holds.takeByte {pre : List Byte} {r : CipherRegs} (h : r.Holds pre) (hlen : pre.length < 8)
    (b : Byte) : (r.takeByte b).Holds (pre ++ [b]) := by
  obtain ⟨hbuf, hcnt, heos⟩ := h
  have hlt : r.icnt.val < 8 := hcnt ▸ hlen
  rw [CipherRegs.takeByte, dif_pos hlt]
  refine ⟨?_, by simp [hcnt], heos⟩
  rw [← blockAt_concat hlen]
  simp [hbuf, hcnt]

/-- `s` after the DOUT writes `es`, the cipher unit's registers holding `c`. -/
def State.ciphered (es : List DoutEvent) (c : CipherRegs) (s : State) : State := { s.wrote es with cipher := c }

theorem startBlock_holds (s : State) : s.startBlock.cipher.Holds [] := ⟨rfl, rfl, rfl⟩

theorem startBlock_eq_ciphered (s : State) : s.startBlock = s.ciphered [] s.startBlock.cipher := by
  rw [State.ciphered, wrote_nil]
  rfl

theorem ciphered_cipher (s : State) (es : List DoutEvent) (c : CipherRegs) : (s.ciphered es c).cipher = c := rfl

theorem wrote_ciphered (s : State) (es fs : List DoutEvent) (c : CipherRegs) :
    (s.ciphered es c).wrote fs = s.ciphered (es ++ fs) c :=
  congrArg (fun t : State => { t with cipher := c }) (wrote_wrote s es fs)

/-- R75: bytes that do not fill the block. -/
theorem readTokens_partial (m : Mode) {s : State} {es : List DoutEvent} {c : CipherRegs} {pre : List Byte}
    (h : c.Holds pre) {bs : List Byte} (hlen : pre.length + bs.length < 8) (ts : List DinToken) :
    ∃ c' : CipherRegs, c'.Holds (pre ++ bs) ∧
      readTokens m (byteTokens bs ++ ts) (s.ciphered es c) = readTokens m ts (s.ciphered es c') := by
  induction bs generalizing pre c with
  | nil => exact ⟨c, by rwa [List.append_nil], rfl⟩
  | cons b bs ih =>
    rw [List.length_cons] at hlen
    have hb : (c.takeByte b).Holds (pre ++ [b]) := h.takeByte (by omega) b
    have hroom : (c.takeByte b).icnt.val < 8 := by
      rw [hb.icnt, List.length_append, List.length_singleton]
      omega
    obtain ⟨c', hc', hread⟩ := ih hb (by rw [List.length_append, List.length_singleton]; omega)
    rw [List.append_assoc, List.singleton_append] at hc'
    refine ⟨c', hc', Eq.trans ?_ hread⟩
    exact (readTokens_byte m b _ _).trans (if_pos hroom)

theorem storeHalves_transform (cs : CSbox) (key : KeyWords) (m : Mode) (r : CipherRegs) :
    storeHalves ((r.transform cs key m).a, (r.transform cs key m).b) = blockImage cs key m r.ibuf := rfl

/-- R75, R72, R73: eight bytes fill the block, and it is transformed. -/
theorem readTokens_block (m : Mode) {s : State} {es : List DoutEvent} {c : CipherRegs} (h : c.Holds [])
    {bs : List Byte} (hlen : bs.length = 8) (ts : List DinToken) :
    ∃ c' : CipherRegs, c'.eos = false ∧
      storeHalves (c'.a, c'.b) = blockImage s.cfg.csbox s.key m (blockAt bs 0) ∧
      readTokens m (byteTokens bs ++ ts) (s.ciphered es c) = ((s.ciphered es c').setDin ts).writeOn m 0 := by
  obtain ⟨pre, b, rfl⟩ : ∃ pre b, bs = pre ++ [b] := by
    rcases List.eq_nil_or_concat' bs with rfl | hsplit
    · cases hlen
    · exact hsplit
  rw [List.length_append, List.length_singleton] at hlen
  have hpre : pre.length < 8 := by omega
  obtain ⟨c₁, hc₁, hread⟩ := readTokens_partial m (s := s) (es := es) h (bs := pre)
    (by rwa [List.length_nil, Nat.zero_add]) (.byte b :: ts)
  have hb : (c₁.takeByte b).Holds (pre ++ [b]) := hc₁.takeByte hpre b
  have hfull : ¬ (c₁.takeByte b).icnt.val < 8 := by
    rw [hb.icnt, List.length_append, List.length_singleton, hlen]
    decide
  have htokens : byteTokens (pre ++ [b]) ++ ts = byteTokens pre ++ .byte b :: ts := by simp [byteTokens]
  refine ⟨(c₁.takeByte b).transform s.cfg.csbox s.key m, hb.eos, ?_, ?_⟩
  · rw [storeHalves_transform, hb.ibuf]
  · rw [htokens, hread, readTokens_byte]
    exact if_neg hfull

/-- Block `n` of the data, the blocks before it already taken. -/
theorem readTokens_next_block (m : Mode) {s : State} {es : List DoutEvent} {c : CipherRegs} (h : c.Holds [])
    {bs : List Byte} {n : Nat} (hn : n < bs.length / 8) (tail : List DinToken) :
    ∃ c' : CipherRegs, c'.eos = false ∧
      storeHalves (c'.a, c'.b) = blockImage s.cfg.csbox s.key m (blockAt bs n) ∧
      readTokens m (byteTokens (bs.drop (8 * n)) ++ tail) (s.ciphered es c) =
        ((s.ciphered es c').setDin (byteTokens (bs.drop (8 * (n + 1))) ++ tail)).writeOn m 0 := by
  have hlen : ((bs.drop (8 * n)).take 8).length = 8 := by
    rw [List.length_take, List.length_drop]
    omega
  obtain ⟨c', heos, himage, hread⟩ := readTokens_block m (s := s) (es := es) h hlen
    (byteTokens (bs.drop (8 * (n + 1))) ++ tail)
  rw [blockAt_take, blockAt_drop] at himage
  refine ⟨c', heos, himage, ?_⟩
  rw [byteTokens_split 8, List.append_assoc, List.drop_drop]
  exact hread

/-! ## A block written, by the sink's answers -/

section
variable {m : Mode} {s : State} {es : List DoutEvent} {c : CipherRegs} {x : List Byte}
  (hx : storeHalves (c.a, c.b) = x) (ts : List DinToken)
include hx

theorem writeOn_more (hok : (s.wrote es).SinkOk 8) (he : c.eos = false) :
    ((s.ciphered es c).setDin ts).writeOn m 0 =
      readTokens m ts (s.ciphered (es ++ okBytes x) (s.ciphered es c).startBlock.cipher) := by
  have hwrite := writeBlock_more (m := m) (s := (s.ciphered es c).setDin ts) hok he
  rw [State.setDin_cipher, ciphered_cipher, hx, wrote_setDin, wrote_ciphered] at hwrite
  rw [State.writeOn, hwrite]
  exact readTokens_setDin m ts ts (s.ciphered (es ++ okBytes x) c).startBlock

theorem writeOn_last (hok : (s.wrote es).SinkOk 8) (he : c.eos = true) :
    ((s.ciphered es c).setDin ts).writeOn m 0 = ((s.ciphered (es ++ okBytes x) c).setDin ts).finish .cipher := by
  have hwrite := writeBlock_last (m := m) (s := (s.ciphered es c).setDin ts) hok he
  rw [State.setDin_cipher, ciphered_cipher, hx, wrote_setDin, wrote_ciphered] at hwrite
  rw [State.writeOn, hwrite]

variable {k : Nat} (hok : (s.wrote es).SinkOk k) (hk : k < 8)
include hok hk

theorem writeOn_waiting (hnone : (s.wrote es).sinkAt k = none) :
    ((s.ciphered es c).setDin ts).writeOn m 0 =
      ((s.ciphered (es ++ okBytes (x.take k)) c).setDin ts).waitAt (.write m k) := by
  have hlen : x.length = 8 := hx ▸ rfl
  have hback : 8 - (8 - k) = k := Nat.sub_sub_self hk.le
  have hsend := sendBytes_waiting (s := (s.ciphered es c).setDin ts) hok (hlen.symm ▸ hk) hnone
  rw [hlen, wrote_setDin, wrote_ciphered] at hsend
  rw [writeOn_eq, State.setDin_cipher, ciphered_cipher, List.drop_zero, hx, hsend]
  exact congrArg (fun i => State.waitAt (.write m i) _) hback

theorem writeOn_refused (herr : (s.wrote es).sinkAt k = some .err) :
    ((s.ciphered es c).setDin ts).writeOn m 0 =
      if c.eos then
        ((s.ciphered (es ++ okBytes (x.take k) ++ [refusedByte (x.getD k 0)]) c).setDin ts).release
          .cipher .streamOut
      else
        ((s.ciphered (es ++ okBytes (x.take k) ++ [refusedByte (x.getD k 0)]) c).setDin ts).drain
          .cipher .streamOut := by
  have hlen : x.length = 8 := hx ▸ rfl
  have hsend := sendBytes_refused (s := (s.ciphered es c).setDin ts) hok (hlen.symm ▸ hk) herr
  rw [wrote_setDin, wrote_ciphered, ← List.append_assoc] at hsend
  rw [writeOn_eq, State.setDin_cipher, ciphered_cipher, List.drop_zero, hx, hsend]
  rfl

end

/-! ## The blocks of a packet -/

/-- The sink's answers once the first `n` blocks are written. -/
theorem sinkAt_wrote_blocks (cs : CSbox) (key : KeyWords) (m : Mode) (bs : List Byte) (s : State) (n j : Nat) :
    (s.wrote (okBytes (blockImages cs key m bs n))).sinkAt j = s.sinkAt (8 * n + j) := by
  rw [sinkAt_wrote_okBytes, blockImages_length]

theorem State.SinkOk.wrote_blocks {s : State} {n k : Nat} (h : s.SinkOk (8 * n + k)) (cs : CSbox) (key : KeyWords)
    (m : Mode) (bs : List Byte) : (s.wrote (okBytes (blockImages cs key m bs n))).SinkOk k :=
  h.wrote (by rw [okBytes, List.length_map, blockImages_length])

section
variable {m : Mode} {s : State} {bs : List Byte} {c : CipherRegs} {j N : Nat} (hok : s.SinkOk j) (hj : j < 8 * N)
  (himage : storeHalves (c.a, c.b) = blockImage s.cfg.csbox s.key m (blockAt bs (j / 8))) (d : List DinToken)
include hok hj himage

/-- The block of byte `j` is written up to that byte, which the sink does not take. -/
theorem writeOn_waiting_at_byte (hnone : s.sinkAt j = none) :
    ((s.ciphered (okBytes (blockImages s.cfg.csbox s.key m bs (j / 8))) c).setDin d).writeOn m 0 =
      ((s.ciphered (okBytes ((blockImages s.cfg.csbox s.key m bs N).take j)) c).setDin d).waitAt
        (.write m (j % 8)) := by
  have hsplit : 8 * (j / 8) + j % 8 = j := Nat.div_add_mod j 8
  have hsink : s.SinkOk (8 * (j / 8) + j % 8) := hsplit.symm ▸ hok
  rw [writeOn_waiting himage d (hsink.wrote_blocks _ _ _ _) (by omega)
    (by rw [sinkAt_wrote_blocks, hsplit, hnone]), ← okBytes_append, take_blockImages _ _ _ _ hj]

/-- The block of byte `j` is written up to that byte, which the sink refuses. -/
theorem writeOn_refused_at_byte (herr : s.sinkAt j = some .err) :
    ((s.ciphered (okBytes (blockImages s.cfg.csbox s.key m bs (j / 8))) c).setDin d).writeOn m 0 =
      if c.eos then
        ((s.ciphered (okBytes ((blockImages s.cfg.csbox s.key m bs N).take j) ++
          [refusedByte ((blockImages s.cfg.csbox s.key m bs N).getD j 0)]) c).setDin d).release .cipher .streamOut
      else
        ((s.ciphered (okBytes ((blockImages s.cfg.csbox s.key m bs N).take j) ++
          [refusedByte ((blockImages s.cfg.csbox s.key m bs N).getD j 0)]) c).setDin d).drain .cipher .streamOut := by
  have hsplit : 8 * (j / 8) + j % 8 = j := Nat.div_add_mod j 8
  have hsink : s.SinkOk (8 * (j / 8) + j % 8) := hsplit.symm ▸ hok
  rw [writeOn_refused himage d (hsink.wrote_blocks _ _ _ _) (by omega)
    (by rw [sinkAt_wrote_blocks, hsplit, herr]), ← okBytes_append, take_blockImages _ _ _ _ hj,
    getD_blockImages _ _ _ _ hj]

end

section
variable {m : Mode} {s : State} (hkey : s.keyv = true) {bs : List Byte}
include hkey

/-- R78: `n` whole blocks read and written, each transformed on its own. -/
theorem process_blocks {tail : List DinToken} (hdin : s.din = byteTokens bs ++ tail) {n : Nat}
    (hn : n ≤ bs.length / 8) (hok : s.SinkOk (8 * n)) :
    ∃ c : CipherRegs, c.Holds [] ∧
      s.process m = readTokens m (byteTokens (bs.drop (8 * n)) ++ tail)
        (s.ciphered (okBytes (blockImages s.cfg.csbox s.key m bs n)) c) := by
  induction n with
  | zero =>
    refine ⟨_, startBlock_holds s, ?_⟩
    rw [State.process, if_pos hkey, State.readOn, State.startBlock_din, hdin, startBlock_eq_ciphered s]
    rfl
  | succ n ih =>
    obtain ⟨c, hc, hread⟩ := ih (by omega) (hok.mono (by omega))
    obtain ⟨c', heos, himage, hblock⟩ := readTokens_next_block m (s := s)
      (es := okBytes (blockImages s.cfg.csbox s.key m bs n)) hc hn tail
    refine ⟨(s.ciphered (okBytes (blockImages s.cfg.csbox s.key m bs n)) c').startBlock.cipher,
      startBlock_holds _, ?_⟩
    rw [hread, hblock, writeOn_more himage _ (hok.wrote_blocks (n := n) _ _ _ _) heos, ← okBytes_append,
      ← blockImages_succ]

/-- R75, R78: the whole block `n`, read and transformed but not yet written. -/
theorem process_whole_block {tail : List DinToken} (hdin : s.din = byteTokens bs ++ tail) {n : Nat}
    (hn : n < bs.length / 8) (hok : s.SinkOk (8 * n)) :
    ∃ c : CipherRegs, c.eos = false ∧ storeHalves (c.a, c.b) = blockImage s.cfg.csbox s.key m (blockAt bs n) ∧
      s.process m = ((s.ciphered (okBytes (blockImages s.cfg.csbox s.key m bs n)) c).setDin
        (byteTokens (bs.drop (8 * (n + 1))) ++ tail)).writeOn m 0 := by
  obtain ⟨c, hc, hread⟩ := process_blocks (m := m) hkey hdin hn.le hok
  obtain ⟨c', heos, himage, hblock⟩ := readTokens_next_block m (s := s)
    (es := okBytes (blockImages s.cfg.csbox s.key m bs n)) hc hn tail
  exact ⟨c', heos, himage, hread.trans hblock⟩

/-- R75: the whole blocks written, the bytes after them in IBUF. -/
theorem process_partial_block {tail : List DinToken} (hdin : s.din = byteTokens bs ++ tail)
    (hok : s.SinkOk (8 * (bs.length / 8))) :
    ∃ c : CipherRegs, c.Holds (bs.drop (8 * (bs.length / 8))) ∧
      s.process m = readTokens m tail
        (s.ciphered (okBytes (blockImages s.cfg.csbox s.key m bs (bs.length / 8))) c) := by
  obtain ⟨c, hc, hread⟩ := process_blocks (m := m) hkey hdin le_rfl hok
  obtain ⟨c', hc', hpartial⟩ := readTokens_partial m (s := s)
    (es := okBytes (blockImages s.cfg.csbox s.key m bs (bs.length / 8))) hc
    (bs := bs.drop (8 * (bs.length / 8))) (by rw [List.length_drop, List.length_nil]; omega) tail
  exact ⟨c', hc', hread.trans hpartial⟩

/-! ## The ends of a packet -/

/-- R75, R78: the padded final block, transformed but not yet written, `End` taken. -/
theorem process_last_block {ts : List DinToken} (hdin : s.din = packet bs ts) (hrest : bs.length % 8 ≠ 0)
    (hok : s.SinkOk (8 * (bs.length / 8))) :
    ∃ c : CipherRegs, c.eos = true ∧
      storeHalves (c.a, c.b) = blockImage s.cfg.csbox s.key m (blockAt bs (bs.length / 8)) ∧
      s.process m = ((s.ciphered (okBytes (blockImages s.cfg.csbox s.key m bs (bs.length / 8))) c).setDin
        ts).writeOn m 0 := by
  obtain ⟨c, hc, hread⟩ := process_partial_block (m := m) hkey hdin hok
  have hcnt : ¬ c.icnt.val = 0 := by
    rw [hc.icnt, List.length_drop]
    omega
  refine ⟨({ c with eos := true } : CipherRegs).transform s.cfg.csbox s.key m, rfl, ?_, ?_⟩
  · rw [storeHalves_transform, hc.ibuf, blockAt_drop]
  · rw [hread, readTokens_endTok]
    exact if_neg hcnt

/-- R78: every block of the padded data written, the final `End` comes next. -/
theorem process_packet {ts : List DinToken} (hdin : s.din = packet bs ts)
    (hok : s.SinkOk (8 * blockCount bs.length)) :
    ∃ c : CipherRegs, s.process m =
      ((s.ciphered (okBytes (streamImage s.cfg.csbox s.key m bs)) c).setDin ts).finish .cipher := by
  have hwhole : s.SinkOk (8 * (bs.length / 8)) := hok.mono (by unfold blockCount; omega)
  by_cases hrest : bs.length % 8 = 0
  · obtain ⟨c, hc, hread⟩ := process_partial_block (m := m) hkey hdin hwhole
    have hcnt : c.icnt.val = 0 := by
      rw [hc.icnt, List.length_drop]
      omega
    have hcount : blockCount bs.length = bs.length / 8 := by unfold blockCount; omega
    refine ⟨{ c with eos := true }, ?_⟩
    rw [hread, readTokens_endTok, streamImage, hcount]
    exact if_pos hcnt
  · obtain ⟨c, heos, himage, hread⟩ := process_last_block (m := m) hkey hdin hrest hwhole
    have hcount : blockCount bs.length = bs.length / 8 + 1 := by unfold blockCount; omega
    have hsink : s.SinkOk (8 * (bs.length / 8) + 8) := hok.mono (by omega)
    refine ⟨c, ?_⟩
    rw [hread, writeOn_last himage _ (hsink.wrote_blocks _ _ _ _) heos, ← okBytes_append, ← blockImages_succ,
      streamImage, hcount]

/-- R127: the whole blocks written and the partial block dropped, DOUT is released. -/
theorem process_brokenPacket {ts : List DinToken} (hdin : s.din = brokenPacket bs ts)
    (hok : s.SinkOk (8 * (bs.length / 8))) :
    ∃ c : CipherRegs, s.process m =
      ((s.ciphered (okBytes (blockImages s.cfg.csbox s.key m bs (bs.length / 8))) c).setDin ts).release
        .cipher .streamIn := by
  obtain ⟨c, -, hread⟩ := process_partial_block (m := m) hkey hdin hok
  exact ⟨c, hread⟩

/-! ## A byte the sink does not take, or refuses -/

variable {j : Nat} (hok : s.SinkOk j)
include hok

/-- R46, R41(c): the sink does not take byte `j`, which stands in a whole block. -/
theorem process_waiting_whole {tail : List DinToken} (hdin : s.din = byteTokens bs ++ tail)
    (hj : j < 8 * (bs.length / 8)) (hnone : s.sinkAt j = none) :
    ∃ c : CipherRegs, s.process m =
      ((s.ciphered (okBytes ((blockImages s.cfg.csbox s.key m bs (bs.length / 8)).take j)) c).setDin
        (byteTokens (bs.drop (8 * (j / 8 + 1))) ++ tail)).waitAt (.write m (j % 8)) := by
  obtain ⟨c, -, himage, hread⟩ := process_whole_block (m := m) hkey hdin (n := j / 8) (by omega)
    (hok.mono (by omega))
  exact ⟨c, hread.trans (writeOn_waiting_at_byte hok hj himage _ hnone)⟩

/-- R46: the sink does not take byte `j`, which stands in the padded final block. -/
theorem process_waiting_last {ts : List DinToken} (hdin : s.din = packet bs ts) (hlow : 8 * (bs.length / 8) ≤ j)
    (hj : j < 8 * blockCount bs.length) (hnone : s.sinkAt j = none) :
    ∃ c : CipherRegs, s.process m =
      ((s.ciphered (okBytes ((streamImage s.cfg.csbox s.key m bs).take j)) c).setDin ts).waitAt
        (.write m (j % 8)) := by
  obtain ⟨hrest, hn⟩ : bs.length % 8 ≠ 0 ∧ bs.length / 8 = j / 8 := by
    unfold blockCount at hj
    omega
  obtain ⟨c, -, himage, hread⟩ := process_last_block (m := m) hkey hdin hrest (hok.mono hlow)
  rw [hn] at himage hread
  exact ⟨c, hread.trans (writeOn_waiting_at_byte hok hj himage ts hnone)⟩

/-- Byte `j` comes to be written: its block is transformed, and what is left of the packet is still on DIN, unless `End`
has been taken. -/
theorem process_block_of_byte {ts : List DinToken}
    (hdin : s.din = packet bs ts ∧ j < 8 * blockCount bs.length ∨
      s.din = brokenPacket bs ts ∧ j < 8 * (bs.length / 8)) :
    ∃ (c : CipherRegs) (d : List DinToken),
      storeHalves (c.a, c.b) = blockImage s.cfg.csbox s.key m (blockAt bs (j / 8)) ∧
      s.process m =
        ((s.ciphered (okBytes (blockImages s.cfg.csbox s.key m bs (j / 8))) c).setDin d).writeOn m 0 ∧
      (c.eos = true ∧ d = ts ∨ c.eos = false ∧ ∃ rest, d = packet rest ts ∨ d = brokenPacket rest ts) := by
  have hsink : s.SinkOk (8 * (j / 8)) := hok.mono (by omega)
  rcases hdin with ⟨hdin, hj⟩ | ⟨hdin, hj⟩
  · by_cases hwhole : j < 8 * (bs.length / 8)
    · obtain ⟨c, heos, himage, hread⟩ := process_whole_block (m := m) hkey hdin (n := j / 8) (by omega) hsink
      exact ⟨c, _, himage, hread, .inr ⟨heos, _, .inl rfl⟩⟩
    · obtain ⟨hrest, hn⟩ : bs.length % 8 ≠ 0 ∧ bs.length / 8 = j / 8 := by
        unfold blockCount at hj
        omega
      obtain ⟨c, heos, himage, hread⟩ := process_last_block (m := m) hkey hdin hrest (hn.symm ▸ hsink)
      rw [hn] at himage hread
      exact ⟨c, ts, himage, hread, .inl ⟨heos, rfl⟩⟩
  · obtain ⟨c, heos, himage, hread⟩ := process_whole_block (m := m) hkey hdin (n := j / 8) (by omega) hsink
    exact ⟨c, _, himage, hread, .inr ⟨heos, _, .inr rfl⟩⟩

/-- R128: the sink refuses byte `j`, and the rest of the packet, if `End` has not been taken, is discarded. -/
theorem process_refused {ts : List DinToken}
    (hdin : s.din = packet bs ts ∧ j < 8 * blockCount bs.length ∨
      s.din = brokenPacket bs ts ∧ j < 8 * (bs.length / 8)) (herr : s.sinkAt j = some .err) :
    ∃ c : CipherRegs, s.process m =
      ((s.ciphered (okBytes ((streamImage s.cfg.csbox s.key m bs).take j) ++
        [refusedByte ((streamImage s.cfg.csbox s.key m bs).getD j 0)]) c).setDin ts).release
          .cipher .streamOut := by
  have hj : j < 8 * blockCount bs.length := by
    unfold blockCount at hdin ⊢
    omega
  obtain ⟨c, d, himage, hread, hend⟩ := process_block_of_byte (m := m) hkey hok hdin
  refine ⟨c, ?_⟩
  rw [hread, writeOn_refused_at_byte hok hj himage d herr]
  rcases hend with ⟨heos, rfl⟩ | ⟨heos, rest, hd⟩
  · exact if_pos heos
  · rw [if_neg (by rw [heos]; decide), drain_packet hd]
    rfl

end

end Sys2Proof.Machine
end

section
/-! Where CPROC and HDIGEST wait, and what has come out by then (R41, R46, R74, R75, R78, R100, R127, R128, R130). -/

namespace Sys2Proof.Machine

/-- What a CPROC leaves unchanged while it waits, and what it has put out. -/
theorem ciphered_waitsAfter (s : State) (es : List DoutEvent) (c : CipherRegs) (ts : List DinToken) (p : Phase) :
    cipherFrame s (((s.ciphered es c).setDin ts).waitAt p) ∧
      s.WaitsAfter p es ts (((s.ciphered es c).setDin ts).waitAt p) :=
  ⟨⟨⟨rfl, rfl⟩, ⟨rfl, rfl, rfl, rfl, rfl⟩, ⟨rfl, rfl⟩, rfl, rfl, fun _ => rfl⟩, rfl, rfl, rfl, rfl, rfl⟩

/-- Settles O31: the whole blocks are written, the bytes after them are in IBUF, and `ReadBlock()` waits. -/
theorem cprocWaitsForInput : Obligations.CprocWaitsForInput := by
  intro m s bs hkey hdin hok
  obtain ⟨c, ⟨hbuf, hcnt, heos⟩, hread⟩ :=
    process_partial_block (m := m) hkey (tail := []) (by rw [hdin, List.append_nil]) hok
  obtain ⟨hframe, hphase, hdout, hleft, hflt, herr⟩ := ciphered_waitsAfter s
    (okBytes (blockImages s.cfg.csbox s.key m bs (bs.length / 8))) c [] (.read m)
  rw [List.length_drop] at hcnt
  refine ⟨_, (exec_cprocOf m s).trans (congrArg _ hread), hphase, hleft, hdout, ?_, ?_, heos, herr, hflt, hframe⟩
  · exact hcnt.trans (by omega)
  · exact hbuf.trans (blockAt_drop bs _)

/-- The writes up to a refused byte. -/
theorem refusal_length {xs : List Byte} {j : Nat} (hj : j < xs.length) (b : Byte) :
    (okBytes (xs.take j) ++ [refusedByte b]).length = j + 1 := by
  rw [List.length_append, okBytes, List.length_map, List.length_take_of_le hj.le, List.length_singleton]

/-! ## CPROC and a sink that takes nothing more -/

section
variable {m : Mode} {s : State} {bs : List Byte} {ts : List DinToken}

/-- The outcome of a CPROC that comes to wait. -/
theorem exec_cproc_of_waits {es : List DoutEvent} {p : Phase}
    (h : ∃ c : CipherRegs, s.process m = ((s.ciphered es c).setDin ts).waitAt p) :
    ∃ t, exec (cprocOf m) s = .next t ∧ cipherFrame s t ∧ s.WaitsAfter p es ts t := by
  obtain ⟨c, hc⟩ := h
  exact ⟨_, (exec_cprocOf m s).trans (congrArg _ hc), ciphered_waitsAfter s es c ts p⟩

variable (hkey : s.keyv = true) {j : Nat} (hok : s.SinkOk j)
include hkey hok

/-- R78: all blocks are out, and the sink does not take the final `End`. -/
theorem process_waiting_end (hdin : s.din = packet bs ts) (hj : j = 8 * blockCount bs.length)
    (hnone : s.sinkAt j = none) :
    ∃ c : CipherRegs, s.process m =
      ((s.ciphered (okBytes (streamImage s.cfg.csbox s.key m bs)) c).setDin ts).waitAt (.lastEnd .cipher) := by
  obtain ⟨c, hread⟩ := process_packet (m := m) hkey hdin (hj ▸ hok)
  have hsink : (s.wrote (okBytes (streamImage s.cfg.csbox s.key m bs))).sinkAt 0 = none := by
    rw [streamImage, sinkAt_wrote_blocks, Nat.add_zero, ← hj, hnone]
  exact ⟨c, hread.trans (finish_waits (s := (s.ciphered _ c).setDin ts) hsink .cipher)⟩

/-- R127: the whole blocks are out, and the sink does not take the `End` of the release. -/
theorem process_waiting_streamIn (hdin : s.din = brokenPacket bs ts) (hj : j = 8 * (bs.length / 8))
    (hnone : s.sinkAt j = none) :
    ∃ c : CipherRegs, s.process m =
      ((s.ciphered (okBytes (blockImages s.cfg.csbox s.key m bs (bs.length / 8))) c).setDin ts).waitAt
        (.release .cipher .streamIn) := by
  obtain ⟨c, hread⟩ := process_brokenPacket (m := m) hkey hdin (hj ▸ hok)
  have hsink : (s.wrote (okBytes (blockImages s.cfg.csbox s.key m bs (bs.length / 8)))).sinkAt 0 = none := by
    rw [sinkAt_wrote_blocks, Nat.add_zero, ← hj, hnone]
  exact ⟨c, hread.trans (release_waits (s := (s.ciphered _ c).setDin ts) hsink .cipher .streamIn)⟩

/-- R128: byte `j` is refused, and the sink does not take the `End` of the release. -/
theorem process_waiting_streamOut
    (hdin : s.din = packet bs ts ∧ j < 8 * blockCount bs.length ∨
      s.din = brokenPacket bs ts ∧ j < 8 * (bs.length / 8))
    (herr : s.sinkAt j = some .err) (hnone : s.sinkAt (j + 1) = none) :
    ∃ c : CipherRegs, s.process m =
      ((s.ciphered (okBytes ((streamImage s.cfg.csbox s.key m bs).take j) ++
        [refusedByte ((streamImage s.cfg.csbox s.key m bs).getD j 0)]) c).setDin ts).waitAt
          (.release .cipher .streamOut) := by
  obtain ⟨c, hread⟩ := process_refused (m := m) hkey hok hdin herr
  have hj : j < 8 * blockCount bs.length := by
    unfold blockCount at hdin ⊢
    omega
  have hsink : (s.wrote (okBytes ((streamImage s.cfg.csbox s.key m bs).take j) ++
      [refusedByte ((streamImage s.cfg.csbox s.key m bs).getD j 0)])).sinkAt 0 = none := by
    rw [sinkAt_wrote, refusal_length (by rwa [streamImage_length]), Nat.add_zero, hnone]
  exact ⟨c, hread.trans (release_waits (s := (s.ciphered _ c).setDin ts) hsink .cipher .streamOut)⟩

/-- R46, R74, R78: the waits of a packet's padded final block and of its `End`. -/
theorem exec_cproc_waiting_last (hdin : s.din = packet bs ts) (hlow : 8 * (bs.length / 8) ≤ j)
    (hj : j ≤ 8 * blockCount bs.length) (hnone : s.sinkAt j = none) :
    ∃ t, exec (cprocOf m) s = .next t ∧ cipherFrame s t ∧
      s.WaitsAfter (if j < 8 * blockCount bs.length then .write m (j % 8) else .lastEnd .cipher)
        (okBytes ((streamImage s.cfg.csbox s.key m bs).take j)) ts t := by
  by_cases hlt : j < 8 * blockCount bs.length
  · rw [if_pos hlt]
    exact exec_cproc_of_waits (process_waiting_last hkey hok hdin hlow hlt hnone)
  · have hend : j = 8 * blockCount bs.length := by omega
    rw [if_neg hlt, List.take_of_length_le (by rw [streamImage_length]; omega)]
    exact exec_cproc_of_waits (process_waiting_end hkey hok hdin hend hnone)

end

/-! ## HDIGEST and a sink that takes nothing more -/

section
variable {s : State} {bs : List Byte} {ts : List DinToken}

/-- What an HDIGEST leaves unchanged while it waits to release DOUT, nothing put out. -/
theorem copied_waitsAfter (s : State) (bs : List Byte) (ts : List DinToken) (p : Phase) :
    hashFrame s (((s.copied bs).setDin ts).waitAt p) ∧ s.WaitsAfter p [] ts (((s.copied bs).setDin ts).waitAt p) :=
  ⟨⟨⟨rfl, rfl⟩, ⟨rfl, rfl, rfl, rfl, rfl⟩, ⟨rfl, rfl⟩, rfl⟩, rfl, (List.append_nil _).symm, rfl, rfl, rfl⟩

/-- What an HDIGEST leaves unchanged while it waits in its output, and what it has put out. -/
theorem digested_waitsAfter (s : State) (bs : List Byte) (ts : List DinToken) (es : List DoutEvent) (p : Phase) :
    hashFrame s (((s.digested bs ts).wrote es).waitAt p) ∧
      s.WaitsAfter p es ts (((s.digested bs ts).wrote es).waitAt p) := by
  simp [hashFrame, sameKey, sameInstance, sameRsp, sameCipher, State.WaitsAfter, State.digested, State.copied,
    State.storeBytes]

section
variable (hm : Memory.wf s.msg) (hfit : bs.length ≤ s.cfg.msgMax) (hdin : s.din = packet bs ts)
include hfit hdin

/-- The outcome of an HDIGEST that comes to wait in its output. -/
theorem exec_hdigest_of_waits {es : List DoutEvent} {p : Phase}
    (h : (s.digested bs ts).sendDigest 0 = ((s.digested bs ts).wrote es).waitAt p) :
    ∃ t, exec .hdigest s = .next t ∧ hashFrame s t ∧ s.WaitsAfter p es ts t :=
  ⟨_, (exec_hdigest_packet hfit hdin).trans (congrArg _ h), digested_waitsAfter s bs ts es p⟩

variable {j : Nat} (hok : s.SinkOk j)
include hm hok

/-- R46, R100: the waits of a digest byte and of the final `End`. -/
theorem exec_hdigest_waiting (hnone : s.sinkAt j = none) (hj : j ≤ digestLength s.hsize) :
    ∃ t, exec .hdigest s = .next t ∧ hashFrame s t ∧
      s.WaitsAfter (if j < digestLength s.hsize then .digest j else .lastEnd .hash)
        (okBytes ((messageDigest s.cfg s.hsize bs).take j)) ts t := by
  have hds := digestBytes_digested hm bs ts
  have hlen := messageDigest_length s.cfg s.hsize bs
  by_cases hlt : j < digestLength s.hsize
  · rw [if_pos hlt]
    exact exec_hdigest_of_waits hfit hdin (sendDigest_waiting hds (hok.digested bs ts) hlt hnone)
  · obtain rfl : j = digestLength s.hsize := by omega
    have hsink : ((s.digested bs ts).wrote (okBytes (messageDigest s.cfg s.hsize bs))).sinkAt 0 = none := by
      rw [sinkAt_wrote_okBytes, hlen, Nat.add_zero, sinkAt_digested, hnone]
    rw [if_neg hlt, List.take_of_length_le hlen.le]
    exact exec_hdigest_of_waits hfit hdin
      ((sendDigest_all hds (hok.digested bs ts)).trans (finish_waits hsink .hash))

/-- R128: digest byte `j` is refused, and the sink does not take the `End` of the release. -/
theorem exec_hdigest_waiting_streamOut (herr : s.sinkAt j = some .err) (hnone : s.sinkAt (j + 1) = none)
    (hj : j < digestLength s.hsize) :
    ∃ t, exec .hdigest s = .next t ∧ hashFrame s t ∧
      s.WaitsAfter (.release .hash .streamOut)
        (okBytes ((messageDigest s.cfg s.hsize bs).take j) ++
          [refusedByte ((messageDigest s.cfg s.hsize bs).getD j 0)]) ts t := by
  have hds := digestBytes_digested hm bs ts
  have hsink : ((s.digested bs ts).wrote (okBytes ((messageDigest s.cfg s.hsize bs).take j) ++
      [refusedByte ((messageDigest s.cfg s.hsize bs).getD j 0)])).sinkAt 0 = none := by
    rw [sinkAt_wrote, refusal_length (by rw [messageDigest_length]; exact hj), Nat.add_zero, sinkAt_digested, hnone]
  exact exec_hdigest_of_waits hfit hdin
    ((sendDigest_refused hds (hok.digested bs ts) hj herr).trans (release_waits hsink .hash .streamOut))

end

variable (hnone : s.sinkAt 0 = none)
include hnone

/-- R127: nothing is written, and the sink does not take the `End` of the release. -/
theorem exec_hdigest_waiting_streamIn (hfit : bs.length ≤ s.cfg.msgMax) (hdin : s.din = brokenPacket bs ts) :
    ∃ t, exec .hdigest s = .next t ∧ hashFrame s t ∧ s.WaitsAfter (.release .hash .streamIn) [] ts t :=
  have hwait := release_waits (s := (s.copied bs).setDin ts) hnone .hash .streamIn
  ⟨_, (exec_hdigest_copied hfit hdin).trans (congrArg _ hwait), copied_waitsAfter s bs ts _⟩

/-- R130: the message does not fit, and the sink does not take the `End` of the release. -/
theorem exec_hdigest_waiting_overflow (hfull : s.cfg.msgMax < bs.length)
    (hdin : s.din = packet bs ts ∨ s.din = brokenPacket bs ts) :
    ∃ t, exec .hdigest s = .next t ∧ hashFrame s t ∧ s.WaitsAfter (.release .hash .msgOverflow) [] ts t :=
  have hwait := release_waits (s := (s.copied (bs.take s.cfg.msgMax)).setDin ts) hnone .hash .msgOverflow
  ⟨_, (exec_hdigest_overflow hfull hdin).trans (congrArg _ hwait), copied_waitsAfter s _ ts _⟩

end

/-- Settles O60: each wait is where the run of writes, or the release after it, meets the first item the sink does not
take. -/
theorem streamsWaitForSink : Obligations.StreamsWaitForSink :=
  ⟨fun _ _ _ _ _ hkey hok =>
    ⟨fun hnone =>
      ⟨fun hdin hj => exec_cproc_of_waits (process_waiting_whole hkey hok hdin hj hnone),
       fun hdin hlow hj => exec_cproc_waiting_last hkey hok hdin hlow hj hnone,
       fun hdin hj => exec_cproc_of_waits (process_waiting_streamIn hkey hok hdin hj hnone)⟩,
     fun herr hnone hdin => exec_cproc_of_waits (process_waiting_streamOut hkey hok hdin herr hnone)⟩,
   fun _ _ _ hm =>
    ⟨fun hfit hdin _ hok =>
      ⟨exec_hdigest_waiting hm hfit hdin hok, exec_hdigest_waiting_streamOut hm hfit hdin hok⟩,
     fun hnone =>
      ⟨exec_hdigest_waiting_streamIn hnone, exec_hdigest_waiting_overflow hnone⟩⟩⟩

end Sys2Proof.Machine
end

section
/-! The fields of a command word and the two formats (R50, R55). -/

namespace Sys2Proof.Machine

theorem opField_append_rsvFieldZ (w : Word) : opField w ++ rsvFieldZ w = w :=
  (BitVec.extractLsb'_append_extractLsb'_eq_extractLsb' rfl).trans BitVec.extractLsb'_eq_self

theorem opField_append_rsvFieldM_append_modeField (w : Word) : opField w ++ rsvFieldM w ++ modeField w = w := by
  have hop : opField w ++ rsvFieldM w = w.extractLsb' 2 30 :=
    BitVec.extractLsb'_append_extractLsb'_eq_extractLsb' rfl
  rw [hop]
  exact (BitVec.extractLsb'_append_extractLsb'_eq_extractLsb' rfl).trans BitVec.extractLsb'_eq_self

@[simp] theorem opField_wordZ (op : BitVec 8) : opField (wordZ op) = op := BitVec.extractLsb'_append_eq_left

@[simp] theorem rsvFieldZ_wordZ (op : BitVec 8) : rsvFieldZ (wordZ op) = 0 := BitVec.extractLsb'_append_eq_right

theorem wordZ_opField {w : Word} (hrsv : rsvFieldZ w = 0) : wordZ (opField w) = w := by
  rw [wordZ, ← hrsv, opField_append_rsvFieldZ]

theorem wordM_opField_modeField {w : Word} (hrsv : rsvFieldM w = 0) : wordM (opField w) (modeField w) = w := by
  rw [wordM, ← hrsv, opField_append_rsvFieldM_append_modeField]

theorem eq_wordZ_iff {w : Word} {op : BitVec 8} : w = wordZ op ↔ opField w = op ∧ rsvFieldZ w = 0 := by
  constructor
  · rintro rfl
    exact ⟨opField_wordZ op, rsvFieldZ_wordZ op⟩
  · rintro ⟨rfl, hrsv⟩
    exact (wordZ_opField hrsv).symm

end Sys2Proof.Machine
end

section
/-! The opcode map as a table: `decodeHead` answers with its rows and with nothing else (R51, R52, R55). -/

namespace Sys2Proof.Machine

theorem formatZ_eq_ok_iff {w : Word} {h h' : Head} : formatZ w h = .ok h' ↔ rsvFieldZ w = 0 ∧ h = h' := by
  unfold formatZ
  split <;> simp_all

theorem formatM_eq_ok_iff {w : Word} {h : Head} :
    formatM w = .ok h ↔ rsvFieldM w = 0 ∧ .whole (ofMode (modeField w)) = h := by
  unfold formatM
  split <;> simp_all

theorem formatZ_error_iff {w : Word} {h : Head} : (∃ why, formatZ w h = .error why) ↔ rsvFieldZ w ≠ 0 := by
  unfold formatZ
  split <;> simp_all

theorem formatM_error_iff {w : Word} : (∃ why, formatM w = .error why) ↔ rsvFieldM w ≠ 0 := by
  unfold formatM
  split <;> simp_all

/-- The eight rows of R51: the command word, and what it tells. -/
def opcodeMap : List (Word × Head) :=
  [(wordZ 0x01, .whole .stat), (wordZ 0x10, .setkey), (wordZ 0x11, .whole .getkey),
    (wordM 0x12 0, .whole .cprocUnset), (wordM 0x12 1, .whole .cprocEnc), (wordM 0x12 2, .whole .cprocDec),
    (wordM 0x12 3, .whole .cprocBad), (wordZ 0x20, .whole .hdigest)]

/-- R51: format Z for the four ops of its rows, format M for op 0x12, and no other op. -/
theorem decodeHead_cases (w : Word) :
    (∃ h, opField w ∈ [0x01, 0x10, 0x11, 0x20] ∧ (wordZ (opField w), h) ∈ opcodeMap ∧ decodeHead w = formatZ w h) ∨
    (opField w = 0x12 ∧ decodeHead w = formatM w) ∨
    (opField w ∉ [0x01, 0x10, 0x11, 0x12, 0x20] ∧ decodeHead w = .error .unknownOp) := by
  unfold decodeHead
  split
  next hop => exact .inl ⟨_, by rw [hop]; decide, by rw [hop]; decide, rfl⟩
  split
  next hop => exact .inl ⟨_, by rw [hop]; decide, by rw [hop]; decide, rfl⟩
  split
  next hop => exact .inl ⟨_, by rw [hop]; decide, by rw [hop]; decide, rfl⟩
  split
  next hop => exact .inr (.inl ⟨hop, rfl⟩)
  split
  next hop => exact .inl ⟨_, by rw [hop]; decide, by rw [hop]; decide, rfl⟩
  next => exact .inr (.inr ⟨by simp_all, rfl⟩)

/-- R52: all four modes are rows. -/
theorem wordM_mem_opcodeMap : ∀ mode : BitVec 2, (wordM 0x12 mode, .whole (ofMode mode)) ∈ opcodeMap := by decide

theorem mem_opcodeMap_of_decodeHead {w : Word} {h : Head} (hd : decodeHead w = .ok h) : (w, h) ∈ opcodeMap := by
  obtain ⟨h', -, hrow, heq⟩ | ⟨hop, heq⟩ | ⟨-, heq⟩ := decodeHead_cases w
  · obtain ⟨hrsv, rfl⟩ := formatZ_eq_ok_iff.1 (heq.symm.trans hd)
    rwa [wordZ_opField hrsv] at hrow
  · obtain ⟨hrsv, rfl⟩ := formatM_eq_ok_iff.1 (heq.symm.trans hd)
    have hrow := wordM_mem_opcodeMap (modeField w)
    rwa [← hop, wordM_opField_modeField hrsv] at hrow
  · rw [heq] at hd
    cases hd

theorem decodeHead_of_mem_opcodeMap : ∀ row ∈ opcodeMap, decodeHead row.1 = .ok row.2 := by decide

theorem decodeHead_eq_ok_iff {w : Word} {h : Head} : decodeHead w = .ok h ↔ (w, h) ∈ opcodeMap :=
  ⟨mem_opcodeMap_of_decodeHead, decodeHead_of_mem_opcodeMap (w, h)⟩

theorem decodeHead_wordZ_setkey : decodeHead (wordZ 0x10) = .ok .setkey := by decide

/-- R52, R76: SETKEY is the only command of more than one word, and it has one command word. -/
theorem decodeHead_eq_setkey_iff {w : Word} : decodeHead w = .ok .setkey ↔ w = wordZ 0x10 := by
  simp [decodeHead_eq_ok_iff, opcodeMap]

/-- A command of one word is encoded as the word that decodes to it. -/
theorem encode_of_decodeHead {w : Word} {i : Instr} (hd : decodeHead w = .ok (.whole i)) : encode i = [w] := by
  have hrow := decodeHead_eq_ok_iff.1 hd
  cases i with
  | setkey key => simp [opcodeMap] at hrow
  | stat | getkey | cprocUnset | cprocEnc | cprocDec | cprocBad | hdigest =>
    simpa [opcodeMap, encode, eq_comm] using hrow

/-- R55: a word is illegal by its op, or by the reserved bits of its op's format. -/
theorem decodeHead_error_iff (w : Word) :
    (∃ why, decodeHead w = .error why) ↔
      (opField w ∉ [0x01, 0x10, 0x11, 0x12, 0x20] ∨
        (opField w ∈ [0x01, 0x10, 0x11, 0x20] ∧ rsvFieldZ w ≠ 0) ∨
        (opField w = 0x12 ∧ rsvFieldM w ≠ 0)) := by
  obtain ⟨h, hop, -, heq⟩ | ⟨hop, heq⟩ | ⟨hop, heq⟩ := decodeHead_cases w
  · have hother : ∀ op ∈ ([0x01, 0x10, 0x11, 0x20] : List (BitVec 8)),
        op ∈ ([0x01, 0x10, 0x11, 0x12, 0x20] : List (BitVec 8)) ∧ op ≠ 0x12 := by decide
    obtain ⟨hknown, hne⟩ := hother _ hop
    simp only [heq, formatZ_error_iff, hknown, hop, hne, not_true, true_and, false_and, false_or, or_false]
  · rw [heq, formatM_error_iff, hop]
    simp
  · exact iff_of_true ⟨_, heq⟩ (.inl hop)

end Sys2Proof.Machine
end

section
/-! The decoder on whole lists of words: the inverse of the encoder (R51, R53, R54, R55, R132). -/

namespace Sys2Proof.Machine

theorem decode_of_whole {w : Word} {i : Instr} (hd : decodeHead w = .ok (.whole i)) (rest : List Word) :
    decode (w :: rest) = .instr i rest := by
  rw [decode, hd]

theorem decode_setkey (key : KeyWords) (rest : List Word) :
    decode (wordZ 0x10 :: (key.toList ++ rest)) = .instr (.setkey key) rest := by
  rw [decode, decodeHead_wordZ_setkey]
  simp only [takePayload_toList_append]

/-- Settles O3: a command of one word by its row of the opcode map, and SETKEY because its eight payload words are taken
back as they stand. -/
theorem decodeOfEncode : Obligations.DecodeOfEncode := by
  intro i rest
  cases i with
  | setkey key => exact decode_setkey key rest
  | stat | getkey | cprocUnset | cprocEnc | cprocDec | cprocBad | hdigest => exact decode_of_whole (by decide) rest

/-- Settles O1: the map's words are the eight of R51, and no word outside the map has a row. -/
theorem opcodeMapIsExact : Obligations.OpcodeMapIsExact := by
  refine ⟨by decide, decode_setkey, fun w hw => ?_⟩
  cases hd : decodeHead w with
  | error why => exact ⟨why, rfl⟩
  | ok h =>
    have hwords : opcodeMap.map Prod.fst =
        [0x01000000, 0x10000000, 0x11000000, 0x12000000, 0x12000001, 0x12000002, 0x12000003, 0x20000000] := by decide
    exact absurd (hwords ▸ List.mem_map_of_mem (decodeHead_eq_ok_iff.1 hd)) hw

/-- Settles O4: the command word is the row's own, and a payload is the eight words taken. -/
theorem encodeOfDecode : Obligations.EncodeOfDecode := by
  intro ws i rest h
  unfold decode at h
  split at h
  · cases h
  next w tail =>
    split at h
    · cases h
    next j hd =>
      obtain ⟨rfl, rfl⟩ := Decoded.instr.inj h
      rw [encode_of_decodeHead hd, List.singleton_append]
    next hd =>
      split at h
      next key after hk =>
        obtain ⟨rfl, rfl⟩ := Decoded.instr.inj h
        rw [decodeHead_eq_setkey_iff.1 hd, eq_append_of_takePayload hk, encode, List.cons_append]
      · cases h

theorem decode_eq_illegal_iff {w : Word} {ws rest : List Word} {why : Illegal} :
    decode (w :: ws) = .illegal why rest ↔ decodeHead w = .error why ∧ ws = rest := by
  rw [decode]
  split
  next hd => simp [hd]
  next hd => simp [hd]
  next hd => split <;> simp [hd]

/-- R132: fault entry with code 4, nothing else, the word taken. -/
theorem setCmd_raise_illegalCmd {s : State} (hp : s.phase = .idle) (rest : List Word) :
    (s.setCmd rest).raise .illegalCmd = { s with cmd := rest, flt := s.flt ||| 0x10, lasterr := 4 } := by
  simp [State.raise, State.setCmd, Fault.bit, Fault.code, hp]

/-- Settles O5: the decoder rejects a word exactly when its command word is rejected, and the fetch of an illegal word is
the fault entry. -/
theorem illegalWordsExactly : Obligations.IllegalWordsExactly := by
  constructor
  · intro w ws
    simp only [decode_eq_illegal_iff, and_true]
    exact decodeHead_error_iff w
  · intro s why rest hr hp hd
    apply step_of_fetch_done
    rw [fetch_at_idle hr hp, State.fetchCommand, hd]
    exact congrArg Fetched.done (setCmd_raise_illegalCmd hp rest)

theorem commandWords (i : Instr) : Laws.CommandWords.Statement i :=
  match i with
  | .stat => Laws.CommandWords.stat
  | .setkey key => Laws.CommandWords.setkey key
  | .getkey => Laws.CommandWords.getkey
  | .cprocUnset => Laws.CommandWords.cprocUnset
  | .cprocEnc => Laws.CommandWords.cprocEnc
  | .cprocDec => Laws.CommandWords.cprocDec
  | .cprocBad => Laws.CommandWords.cprocBad
  | .hdigest => Laws.CommandWords.hdigest

/-- R54: a command's words are as many as its command word tells, whatever follows them. -/
theorem length_of_cons_eq_encode_append {w : Word} {ws rest : List Word} {i : Instr} (h : w :: ws = encode i ++ rest) :
    ws.length + 1 = commandLength w + rest.length := by
  obtain ⟨hwf, -⟩ := commandWords i
  cases he : encode i with
  | nil => simp [he, wellFormedWords] at hwf
  | cons v tail =>
    rw [he] at h hwf
    obtain ⟨rfl, hws⟩ := List.cons.inj h
    have hlen : tail.length + 1 = commandLength w := by simp_all [wellFormedWords]
    rw [hws, ← hlen, List.append_eq, List.length_append]
    omega

/-- Settles O6: the length is a test for SETKEY's word, and what decodes is an encoding, whose length its command word
tells. -/
theorem lengthFromCommandWord : Obligations.LengthFromCommandWord := by
  intro w ws
  refine ⟨by simp only [commandLength, eq_wordZ_iff],
    fun i rest h => length_of_cons_eq_encode_append (encodeOfDecode _ i rest h), fun why rest h => ?_⟩
  obtain ⟨hd, rfl⟩ := decode_eq_illegal_iff.1 h
  have hne : w ≠ wordZ 0x10 := by
    rintro rfl
    exact nomatch decodeHead_wordZ_setkey.symm.trans hd
  exact ⟨if_neg hne, rfl⟩

/-- Settles O2: each of the six words evaluated through the table's numbering. -/
theorem tableWordsDecode : Obligations.TableWordsDecode := by
  unfold Obligations.TableWordsDecode
  decide

end Sys2Proof.Machine
end

section
/-! SETKEY and GETKEY (R76, R77). -/

namespace Sys2Proof.Machine

/-- Settles O13: `loadKey` and `complete` are the two updates the rule names. -/
theorem setkeyLoadsKey : Obligations.SetkeyLoadsKey := fun _ _ => rfl

theorem exec_getkey {s : State} (hkey : s.keyv = true) : exec .getkey s = .next (s.sendKey 0) := if_pos hkey

/-- Settles O14: all eight key words go out, or as many as the host takes. -/
theorem getkeyReadsBack : Obligations.GetkeyReadsBack := by
  intro s hkey
  have hlen : s.key.toList.length = 8 := Vector.length_toList
  refine ⟨fun htakes => ?_, fun k hk hroom => ?_⟩
  · rw [exec_getkey hkey, sendKey_all htakes, List.drop_zero, State.answered, hlen]
    rfl
  · have htaken : (s.key.toList.take k).length = k := List.length_take_of_le (hlen.symm ▸ hk.le)
    rw [exec_getkey hkey, sendKey_some hroom hk, List.drop_zero, Nat.zero_add, State.answered, htaken, hroom,
      Option.map_some, Nat.sub_self]
    rfl

end Sys2Proof.Machine
end

section
/-! The round function and the key schedule (R65 to R71). -/

namespace Sys2Proof.Machine

/-- Settles O20, on the 32 entries of the table. -/
theorem scheduleClosedForm : Obligations.ScheduleClosedForm := by
  constructor <;> decide

/-- Settles O21: both selections as defined, and the 32 indices of DEC read off the table. -/
theorem roundKeySelection : Obligations.RoundKeySelection :=
  ⟨fun _ _ _ => ⟨rfl, rfl⟩, by decide⟩

/-- Settles O22: the carry out of bit 31 is discarded. -/
theorem add32Wraps : Obligations.Add32Wraps := fun a k => BitVec.toNat_add a k

theorem extractLsb'_append_nibble {n : Nat} (x : BitVec n) (v : BitVec 4) (k : Nat) :
    (x ++ v).extractLsb' (k + 4) 4 = x.extractLsb' k 4 :=
  BitVec.extractLsb'_append_eq_of_le (Nat.le_add_left 4 k)

theorem extractLsb'_append_low_nibble {n : Nat} (x : BitVec n) (v : BitVec 4) : (x ++ v).extractLsb' 0 4 = v :=
  BitVec.extractLsb'_append_eq_right

/-- Settles O23: each position is found by peeling off the nibbles below it. -/
theorem substActsPerNibble : Obligations.SubstActsPerNibble := by
  intro cs x b
  fin_cases b <;> simp [nibble, subst, extractLsb'_append_nibble, extractLsb'_append_low_nibble]

theorem getLsbD_rotl11_low (y : Word) {i : Nat} (hi : i < 11) : (rotl11 y).getLsbD i = y.getLsbD (21 + i) := by
  simp [rotl11, hi]

theorem getLsbD_rotl11_high (y : Word) {i : Nat} (hi : i < 21) : (rotl11 y).getLsbD (11 + i) = y.getLsbD i := by
  have hin : 11 + i < 32 := by omega
  have hout : y.getLsbD (21 + (11 + i)) = false := BitVec.getLsbD_of_ge _ _ (by omega)
  simp [rotl11, hin, hout, BitVec.getLsbD_eq_getElem, show i < 32 by omega]

/-- Settles O24, bit by bit on either side of the cut. -/
theorem rotateLeftEleven : Obligations.RotateLeftEleven := by
  intro y
  constructor
  · refine BitVec.eq_of_getLsbD_eq fun i hi => ?_
    simp [hi, getLsbD_rotl11_low y hi]
  · refine BitVec.eq_of_getLsbD_eq fun i hi => ?_
    simp [hi, getLsbD_rotl11_high y hi]

/-- Settles O25: both halves of a round are read off the old pair. -/
theorem roundUsesOldHalves : Obligations.RoundUsesOldHalves := fun _ _ _ _ _ _ _ => ⟨rfl, rfl⟩

end Sys2Proof.Machine
end

section
/-! Decryption runs the rounds of encryption backwards on exchanged halves (R66, R71, R73, R82, R84). -/

namespace Sys2Proof.Machine

section
variable (cs : CSbox) (key : KeyWords)

/-- R66: round `i` of DEC uses the key of round `31 - i` of ENC. -/
theorem round_dec (i : Nat) : round cs key .dec i = round cs key .enc (31 - i) := rfl

/-- R71: a round undoes itself on exchanged halves. -/
theorem round_swap_round (m : Mode) (i : Nat) (ab : Word × Word) :
    round cs key m i (round cs key m i ab).swap = ab.swap := by
  simp [round, Prod.swap]

/-- The Feistel argument: the same rounds in the reverse order, on exchanged halves, undo a run of rounds. -/
theorem foldl_round_reverse (m : Mode) (is : List Nat) (ab : Word × Word) :
    is.reverse.foldl (fun p i => round cs key m i p) (is.foldl (fun p i => round cs key m i p) ab).swap = ab.swap := by
  induction is generalizing ab with
  | nil => rfl
  | cons i is ih =>
    rw [List.reverse_cons, List.foldl_append, List.foldl_cons (b := ab), ih]
    exact round_swap_round cs key m i ab

/-- R66, R73: DEC runs the rounds of ENC in the reverse order. -/
theorem crypt_dec (ab : Word × Word) :
    crypt cs key .dec ab = (List.range 32).reverse.foldl (fun p i => round cs key .enc i p) ab := by
  have hreverse : (List.range 32).reverse = (List.range 32).map (31 - ·) := by decide
  simp only [crypt, round_dec, hreverse, List.foldl_map]

theorem crypt_dec_swap_crypt_enc (ab : Word × Word) :
    crypt cs key .dec (crypt cs key .enc ab).swap = ab.swap := by
  rw [crypt_dec]
  exact foldl_round_reverse cs key .enc (List.range 32) ab

end

/-- Settles O28: with one key word for every round the two modes have the same rounds. -/
theorem equalRoundKeysMakeModesEqual : Obligations.EqualRoundKeysMakeModesEqual := by
  intro cs key ab heq
  have hround (i : Nat) : round cs key .enc i = round cs key .dec i := by
    have hkey : roundKey key .enc i = roundKey key .dec i := heq (sched i) (sched (31 - i))
    simp only [funext_iff, round, hkey, implies_true]
  simp only [crypt, hround]

end Sys2Proof.Machine
end

section
/-! A block, and the data block by block, through encryption and back (R72, R74, R75, R78, R82). -/

namespace Sys2Proof.Machine

/-! ## One block -/

/-- R8: `be32` undoes `bytes_be32`. -/
theorem be32_extractLsb' (w : Word) :
    be32 (w.extractLsb' 24 8) (w.extractLsb' 16 8) (w.extractLsb' 8 8) (w.extractLsb' 0 8) = w := by
  have htop : w.extractLsb' 24 8 ++ w.extractLsb' 16 8 = w.extractLsb' 16 16 :=
    BitVec.extractLsb'_append_extractLsb'_eq_extractLsb' rfl
  have hlow : w.extractLsb' 16 16 ++ w.extractLsb' 8 8 = w.extractLsb' 8 24 :=
    BitVec.extractLsb'_append_extractLsb'_eq_extractLsb' rfl
  rw [be32, htop, hlow]
  exact (BitVec.extractLsb'_append_extractLsb'_eq_extractLsb' rfl).trans BitVec.extractLsb'_eq_self

/-- R72, R74: a stored block is loaded again with its halves exchanged. -/
theorem loadHalves_of_toList_eq_storeHalves {y : Vector Byte 8} {ab : Word × Word} (h : y.toList = storeHalves ab) :
    loadHalves y = ab.swap := by
  obtain rfl : y = ⟨⟨storeHalves ab⟩, rfl⟩ := Vector.toList_inj.1 h
  exact Prod.ext (be32_extractLsb' ab.2) (be32_extractLsb' ab.1)

/-- R72, R74: a block loaded, its halves exchanged, is stored as it was. -/
theorem storeHalves_swap_loadHalves (x : Vector Byte 8) : storeHalves (loadHalves x).swap = x.toList := by
  have hbytes : x.toList = [x[0], x[1], x[2], x[3], x[4], x[5], x[6], x[7]] :=
    List.ext_getElem (by simp) fun i hi _ => by
      have hi' : i < 8 := by simpa using hi
      interval_cases i <;> rfl
  simp [storeHalves, loadHalves, hbytes]

/-- Settles O27: the halves that DEC loads are those ENC ended with, exchanged; it takes them back to those ENC began
with, exchanged. -/
theorem blockRoundTrip : Obligations.BlockRoundTrip := by
  intro cs key x y hy
  rw [blockImage, loadHalves_of_toList_eq_storeHalves hy, crypt_dec_swap_crypt_enc, storeHalves_swap_loadHalves]

/-! ## The blocks of the data -/

theorem toList_blockAt (bs : List Byte) (n : Nat) :
    (blockAt bs n).toList = (List.range 8).map fun i => bs.getD (8 * n + i) 0 := rfl

/-- R75: the blocks, one after the other, are the data's bytes and zeros after them. -/
theorem flatMap_blockAt (bs : List Byte) (N : Nat) :
    (List.range N).flatMap (fun n => (blockAt bs n).toList) = (List.range (8 * N)).map (bs.getD · 0) := by
  induction N with
  | zero => rfl
  | succ N ih =>
    rw [List.range_succ, List.flatMap_append, ih, Nat.mul_succ, List.range_add, List.map_append, List.flatMap_singleton,
      toList_blockAt, List.map_map]
    rfl

theorem zeroPad_eq_map_range (bs : List Byte) :
    zeroPad bs = (List.range (8 * blockCount bs.length)).map (bs.getD · 0) := by
  have hlen : bs.length ≤ 8 * blockCount bs.length := by unfold blockCount; omega
  refine List.ext_getElem (by simp [zeroPad]; omega) fun i _ _ => ?_
  by_cases hi : i < bs.length
  · simp [zeroPad, hi]
  · simp [zeroPad, List.getElem_append_right (Nat.le_of_not_lt hi), hi]

/-- R74, R78: a block of the output is the image of its block of the data. -/
theorem toList_blockAt_blockImages (cs : CSbox) (key : KeyWords) (m : Mode) (bs : List Byte) {n N : Nat} (hn : n < N) :
    (blockAt (blockImages cs key m bs N) n).toList = blockImage cs key m (blockAt bs n) := by
  refine List.ext_getElem rfl fun i hi hi' => ?_
  rw [blockImage_length] at hi'
  have hdiv : (8 * n + i) / 8 = n := by omega
  have hmod : (8 * n + i) % 8 = i := by omega
  rw [Vector.getElem_toList, blockAt_getElem _ _ _ hi', getD_blockImages cs key m bs (by omega), hdiv, hmod,
    List.getD_eq_getElem]

theorem blockCount_streamImage (cs : CSbox) (key : KeyWords) (m : Mode) (bs : List Byte) :
    blockCount (streamImage cs key m bs).length = blockCount bs.length := by
  rw [streamImage_length]
  unfold blockCount
  omega

/-- R82: decrypting the encrypted stream gives the zero-padded data, block by block. -/
theorem streamImage_dec_streamImage_enc (cs : CSbox) (key : KeyWords) (bs : List Byte) :
    streamImage cs key .dec (streamImage cs key .enc bs) = zeroPad bs := by
  rw [zeroPad_eq_map_range, ← flatMap_blockAt, streamImage, blockCount_streamImage]
  refine List.flatMap_congr fun n hn => ?_
  exact blockRoundTrip cs key _ _ (toList_blockAt_blockImages cs key .enc bs (List.mem_range.1 hn))

end Sys2Proof.Machine
end

section
/-! CPROC on a packet that ends well, and the two modes one after the other (R78 to R80, R82). -/

namespace Sys2Proof.Machine

/-- R78, R100: the sink takes the final `End` and answers `ok`. -/
theorem finish_ok {s : State} (h : s.sinkAt 0 = some .ok) (u : StreamUnit) :
    s.finish u = (s.wrote [endEvent .ok]).complete.freeWork u := by
  rw [finish_eq, h]
  rfl

/-- R78: every block of the padded data is written, then the final `End`, and the command completes. -/
theorem process_completes {m : Mode} {s : State} {bs : List Byte} {ts : List DinToken} (hkey : s.keyv = true)
    (hdin : s.din = packet bs ts) (hok : s.SinkOk (8 * blockCount bs.length + 1)) :
    ∃ c : CipherRegs, s.process m =
      ((s.ciphered (okBytes (streamImage s.cfg.csbox s.key m bs) ++ [endEvent .ok]) c).setDin ts).complete.freeWork
        .cipher := by
  obtain ⟨c, hread⟩ := process_packet (m := m) hkey hdin (hok.mono (Nat.le_succ _))
  have hend : (s.wrote (okBytes (streamImage s.cfg.csbox s.key m bs))).sinkAt 0 = some .ok := by
    rw [sinkAt_wrote_okBytes, streamImage_length]
    exact hok _ (Nat.lt_succ_self _)
  have hfinish := finish_ok (s := (s.ciphered _ c).setDin ts) hend .cipher
  rw [wrote_setDin, wrote_ciphered] at hfinish
  exact ⟨c, hread.trans hfinish⟩

/-- What a completed CPROC has put out, and what it leaves unchanged. -/
theorem ciphered_complete (s : State) (es : List DoutEvent) (c : CipherRegs) (ts : List DinToken) :
    let t := ((s.ciphered es c).setDin ts).complete.freeWork .cipher
    t.dout = s.dout ++ es ∧ t.din = ts ∧ t.sink = s.sink.drop es.length ∧ t.sinkAfter = s.sinkAfter ∧
      t.lasterr = 0 ∧ t.flt = s.flt ∧ t.phase = .idle ∧ cipherFrame s t :=
  ⟨rfl, rfl, rfl, rfl, rfl, rfl, rfl, ⟨rfl, rfl⟩, ⟨rfl, rfl, rfl, rfl, rfl⟩, ⟨rfl, rfl⟩, rfl, rfl, fun _ => rfl⟩

/-- Settles O29: the writes are the blocks' bytes and `End`, one for each of the sink's answers. -/
theorem cprocStreamCompletes : Obligations.CprocStreamCompletes := by
  intro m s bs rest hkey hdin hok
  have hlen := streamImage_length s.cfg.csbox s.key m bs
  obtain ⟨c, hprocess⟩ := process_completes (m := m) hkey hdin hok
  obtain ⟨hdout, hleft, hsink, hend⟩ := ciphered_complete s
    (okBytes (streamImage s.cfg.csbox s.key m bs) ++ [endEvent .ok]) c rest
  rw [List.length_append, okBytes, List.length_map, hlen, List.length_singleton] at hsink
  refine ⟨_, (exec_cprocOf m s).trans (congrArg _ hprocess), ?_, hlen, hleft, hsink, hend⟩
  rw [hdout, List.append_assoc]

theorem dataBytes_okBytes_append_endEvent (bs : List Byte) (a : Answer) :
    dataBytes (okBytes bs ++ [endEvent a]) = bs := by
  simp [dataBytes, okBytes, endEvent, List.filterMap_map]

/-- The sink's answers after the first `n` of them. -/
theorem sinkAt_of_sink_eq_drop {s t : State} {n : Nat} (hsink : t.sink = s.sink.drop n)
    (hafter : t.sinkAfter = s.sinkAfter) (j : Nat) : t.sinkAt j = s.sinkAt (n + j) := by
  rw [State.sinkAt, State.sinkAt, hsink, hafter, List.getElem?_drop]

/-- Settles O30: CPROC completes on the data and on what it wrote, and the second image of the first is the padded
data. -/
theorem decryptionUndoesEncryption : Obligations.DecryptionUndoesEncryption := by
  intro s bs rest hkey hdin hok
  obtain ⟨t, hexec, hdout, -, htdin, hsink, hafter, -, -, -, ⟨htkey, htkeyv⟩, ⟨-, -, -, hcfg, -⟩, -, -⟩ :=
    cprocStreamCompletes .enc s bs rest hkey hdin (hok.mono (by omega))
  have hbytes : dataBytes (t.dout.drop s.dout.length) = streamImage s.cfg.csbox s.key .enc bs := by
    rw [hdout, List.append_assoc, List.drop_left, dataBytes_okBytes_append_endEvent]
  have hoks : t.SinkOk (8 * blockCount (streamImage s.cfg.csbox s.key .enc bs).length + 1) := fun j hj => by
    rw [blockCount_streamImage] at hj
    rw [sinkAt_of_sink_eq_drop hsink hafter]
    exact hok _ (by omega)
  obtain ⟨u, huexec, hudout, -, hudin, -⟩ := cprocStreamCompletes .dec
    { t with din := packet (streamImage s.cfg.csbox s.key .enc bs) t.din } _ t.din (htkeyv.trans hkey) rfl hoks
  refine ⟨t, hexec, u, ?_, ?_, hudin.trans htdin⟩
  · rw [hbytes]
    exact huexec
  · rw [hudout, ← streamImage_dec_streamImage_enc s.cfg.csbox s.key bs, ← hcfg, ← htkey]

end Sys2Proof.Machine
end

section
/-! The digits of a vector: the bytes and the rows a vector is assembled from (R8, R87 to R90). -/

namespace Sys2Proof.Machine

/-! ## A vector from its digits -/

/-- The vector whose `w`-bit digits are listed, the top digit first. -/
def joinDigits {w : Nat} (ds : List (BitVec w)) : Vec := ds.foldl (fun acc d => acc <<< w ||| d.setWidth 512) 0

theorem vecOfBytes_eq_joinDigits (bs : List Byte) : vecOfBytes bs = joinDigits bs := rfl

theorem lLayer_eq_joinDigits (c : Config) (v : Vec) : lLayer c v = joinDigits ((List.range 8).map (lRow c v)) := by
  rw [joinDigits, List.foldl_map, lLayer]

theorem joinDigits_concat {w : Nat} (ds : List (BitVec w)) (d : BitVec w) :
    joinDigits (ds ++ [d]) = joinDigits ds <<< w ||| d.setWidth 512 := by
  rw [joinDigits, List.foldl_concat, joinDigits]

theorem extractLsb'_shiftLeft_or_zero {w : Nat} (x : Vec) (d : BitVec w) (hw : w ≤ 512) :
    (x <<< w ||| d.setWidth 512).extractLsb' 0 w = d := by
  ext i hi
  simp [hi, show i < 512 by omega, BitVec.getLsbD_eq_getElem]

theorem extractLsb'_shiftLeft_or_add {w : Nat} (x : Vec) (d : BitVec w) (k : Nat) (hk : k + w + w ≤ 512) :
    (x <<< w ||| d.setWidth 512).extractLsb' (k + w) w = x.extractLsb' k w := by
  ext i hi
  have hbit : k + w + i < 512 := by omega
  have hlow : ¬ k + w + i < w := by omega
  have hidx : k + w + i - w = k + i := by omega
  have hx : x.getLsbD (k + i) = x[k + i] := BitVec.getLsbD_eq_getElem (by omega)
  simp [hbit, hlow, hidx, hx, BitVec.getLsbD_of_ge d (k + w + i) (by omega)]

/-- Digit `j` from the low end. -/
theorem extractLsb'_joinDigits {w : Nat} (ds : List (BitVec w)) (j : Nat) (hj : w * j + w ≤ 512) :
    (joinDigits ds).extractLsb' (w * j) w = ds.reverse.getD j 0 := by
  induction ds using List.reverseRecOn generalizing j with
  | nil => simp [joinDigits]
  | append_singleton ds d ih =>
    rw [joinDigits_concat, List.reverse_concat]
    cases j with
    | zero => exact extractLsb'_shiftLeft_or_zero _ d (by omega)
    | succ j =>
      rw [Nat.mul_succ] at hj ⊢
      rw [extractLsb'_shiftLeft_or_add _ d _ hj, ih j (by omega), List.getD_cons_succ]

/-! ## Bytes and rows -/

theorem vecByte_vecOfBytes {bs : List Byte} (hlen : bs.length = 64) {i : Nat} (hi : i < 64) :
    vecByte (vecOfBytes bs) i = bs[i] := by
  rw [vecByte, vecOfBytes_eq_joinDigits, extractLsb'_joinDigits bs (63 - i) (by omega)]
  have hidx : bs.length - 1 - (63 - i) = i := by omega
  rw [List.getD_eq_getElem _ _ (by rw [List.length_reverse]; omega), List.getElem_reverse]
  simp only [hidx]

theorem vecRow_lLayer (c : Config) (v : Vec) {q : Nat} (hq : q < 8) : vecRow (lLayer c v) q = lRow c v q := by
  rw [vecRow, lLayer_eq_joinDigits, extractLsb'_joinDigits _ (7 - q) (by omega)]
  have hidx : 8 - 1 - (7 - q) = q := by omega
  rw [List.getD_eq_getElem _ _ (by simp; omega), List.getElem_reverse, List.getElem_map, List.getElem_range]
  simp [hidx]

/-- Byte `8q + t` of a vector is byte `t` of its row `q`. -/
theorem vecByte_eq_extractLsb'_vecRow (v : Vec) {q t : Nat} (hq : q < 8) (ht : t < 8) :
    vecByte v (8 * q + t) = (vecRow v q).extractLsb' (8 * (7 - t)) 8 := by
  rw [vecByte, vecRow]
  ext i hi
  have hin : 8 * (7 - t) + i < 64 := by omega
  have hidx : 64 * (7 - q) + (8 * (7 - t) + i) = 8 * (63 - (8 * q + t)) + i := by omega
  simp [hin, hidx]

/-- R90: bit `j` of a row, counted from the top of its first byte, is bit `7 - j mod 8` of byte `j div 8`. -/
theorem getMsbD_vecRow (v : Vec) {q j : Nat} (hq : q < 8) (hj : j < 64) :
    (vecRow v q).getMsbD j = (vecByte v (8 * q + j / 8)).getLsbD (7 - j % 8) := by
  have hidx : 64 * (7 - q) + (63 - j) = 8 * (63 - (8 * q + j / 8)) + (7 - j % 8) := by omega
  have hbit : 7 - j % 8 < 8 := by omega
  simp [vecRow, vecByte, BitVec.getMsbD, hj, hidx, hbit, show 63 - j < 64 by omega]

theorem eq_of_vecByte_eq {a b : Vec} (h : ∀ i < 64, vecByte a i = vecByte b i) : a = b := by
  refine BitVec.eq_of_getLsbD_eq fun i hi => ?_
  have hbyte := congrArg (fun x : Byte => x.getLsbD (i % 8)) (h (63 - i / 8) (by omega))
  have hidx : 8 * (63 - (63 - i / 8)) + i % 8 = i := by omega
  simpa [vecByte, hidx, Nat.mod_lt] using hbyte

theorem eq_of_vecRow_eq {a b : Vec} (h : ∀ q < 8, vecRow a q = vecRow b q) : a = b := by
  refine eq_of_vecByte_eq fun i hi => ?_
  have hi8 : i / 8 < 8 := by omega
  have hm : i % 8 < 8 := by omega
  have ha := vecByte_eq_extractLsb'_vecRow a hi8 hm
  have hb := vecByte_eq_extractLsb'_vecRow b hi8 hm
  rw [Nat.div_add_mod] at ha hb
  rw [ha, hb, h _ hi8]

@[simp] theorem vecOfBytes_vecBytes (v : Vec) : vecOfBytes (vecBytes v) = v :=
  eq_of_vecByte_eq fun i hi => by rw [vecByte_vecOfBytes (vecBytes_length v) hi, vecBytes_getElem]

theorem vecByte_vecXor (a b : Vec) (i : Nat) : vecByte (vecXor a b) i = vecByte a i ^^^ vecByte b i :=
  BitVec.extractLsb'_xor

theorem vecRow_vecXor (a b : Vec) (q : Nat) : vecRow (vecXor a b) q = vecRow a q ^^^ vecRow b q :=
  BitVec.extractLsb'_xor

/-- Settles O37: the bytes of `XOR` bit by bit, those of `S` and `P` off the list each is assembled from. -/
theorem layersActBytewise : Obligations.LayersActBytewise := by
  intro c a b i
  refine ⟨vecByte_vecXor a b i, ?_, ?_⟩
  · have hlen : ((vecBytes a).map (hpiAt c)).length = 64 := by simp
    rw [sLayer, vecByte_vecOfBytes hlen i.isLt, List.getElem_map, vecBytes_getElem, hpiAt]
    exact List.getD_eq_getElem _ _ _
  · have hlen : (c.htau.toList.map fun j => vecByte a j.val).length = 64 := by simp
    rw [pLayer, vecByte_vecOfBytes hlen i.isLt, List.getElem_map]
    simp

end Sys2Proof.Machine
end

section
/-! `ADD` on vectors and on the numbers they stand for (R86). -/

namespace Sys2Proof.Machine

/-- The number of a list of bytes, the top byte first. -/
def bytesNum : List Byte → Nat
  | [] => 0
  | b :: bs => b.toNat * 256 ^ bs.length + bytesNum bs

theorem pow_256 (n : Nat) : 256 ^ n = 2 ^ (8 * n) := (pow_mul 2 8 n).symm

theorem bytesNum_lt (bs : List Byte) : bytesNum bs < 256 ^ bs.length := by
  induction bs with
  | nil => simp [bytesNum]
  | cons b bs ih =>
    calc bytesNum (b :: bs)
        < b.toNat * 256 ^ bs.length + 256 ^ bs.length := Nat.add_lt_add_left ih _
      _ = (b.toNat + 1) * 256 ^ bs.length := (Nat.succ_mul _ _).symm
      _ ≤ 256 * 256 ^ bs.length := Nat.mul_le_mul_right _ b.isLt
      _ = 256 ^ (b :: bs).length := (Nat.pow_succ' ..).symm

theorem bytesNum_map_range (f : Nat → Byte) (n : Nat) :
    bytesNum ((List.range n).map f) = ((List.range n).map fun i => (f i).toNat * 256 ^ (n - 1 - i)).sum := by
  induction n generalizing f with
  | zero => rfl
  | succ n ih =>
    have htail := ih (f ∘ Nat.succ)
    simp only [List.range_succ_eq_map, List.map_cons, List.map_map, bytesNum, List.length_map, List.length_range,
      List.sum_cons, htail]
    simp [Function.comp_def, Nat.sub_sub, Nat.add_comm 1]

theorem vecNum_eq_bytesNum (v : Vec) : vecNum v = bytesNum (vecBytes v) := (bytesNum_map_range (vecByte v) 64).symm

/-- A byte shifted in at the low end of a register of any width. -/
theorem ofNat_shiftLeft_or_byte {n : Nat} (k : Nat) (b : Byte) :
    BitVec.ofNat n k <<< 8 ||| b.setWidth n = BitVec.ofNat n (k * 256 + b.toNat) := by
  have hdisjoint : BitVec.ofNat n k <<< 8 &&& b.setWidth n = 0#n := by
    refine BitVec.eq_of_getLsbD_eq fun i hi => ?_
    by_cases hlow : i < 8
    · simp [hlow]
    · simp [BitVec.getLsbD_of_ge b i (by omega)]
  rw [← BitVec.add_eq_or_of_and_eq_zero _ _ hdisjoint]
  refine BitVec.eq_of_toNat_eq ?_
  simp [Nat.shiftLeft_eq]

/-- Bytes shifted in one after the other are their number, above what the register held. -/
theorem foldl_shiftLeft_or_byte {n : Nat} (k : Nat) (bs : List Byte) :
    bs.foldl (fun (acc : BitVec n) b => acc <<< 8 ||| b.setWidth n) (BitVec.ofNat n k) =
      BitVec.ofNat n (k * 256 ^ bs.length + bytesNum bs) := by
  induction bs generalizing k with
  | nil => simp [bytesNum]
  | cons b bs ih =>
    rw [List.foldl_cons, ofNat_shiftLeft_or_byte, ih, bytesNum, List.length_cons]
    congr 1
    ring

theorem vecOfBytes_eq_ofNat_bytesNum (bs : List Byte) : vecOfBytes bs = BitVec.ofNat 512 (bytesNum bs) := by
  have hfold := foldl_shiftLeft_or_byte (n := 512) 0 bs
  rwa [Nat.zero_mul, Nat.zero_add] at hfold

theorem toNat_ofNat_bytesNum {n : Nat} {bs : List Byte} (hn : n = 8 * bs.length) :
    (BitVec.ofNat n (bytesNum bs)).toNat = bytesNum bs := by
  have hlt := bytesNum_lt bs
  rw [pow_256, ← hn] at hlt
  rw [BitVec.toNat_ofNat, Nat.mod_eq_of_lt hlt]

/-- R86: a carry out of the top byte is discarded. -/
theorem ofNat_add_mul_pow_256 {n m : Nat} (hn : n = 8 * m) (x c : Nat) :
    BitVec.ofNat n (x + c * 256 ^ m) = BitVec.ofNat n x := by
  refine BitVec.eq_of_toNat_eq ?_
  rw [BitVec.toNat_ofNat, BitVec.toNat_ofNat, pow_256, ← hn, Nat.add_mul_mod_self_right]

theorem vecNum_eq_toNat (v : Vec) : vecNum v = v.toNat :=
  calc vecNum v
      = bytesNum (vecBytes v) := vecNum_eq_bytesNum v
    _ = (BitVec.ofNat 512 (bytesNum (vecBytes v))).toNat := (toNat_ofNat_bytesNum (by rw [vecBytes_length])).symm
    _ = v.toNat := by rw [← vecOfBytes_eq_ofNat_bytesNum, vecOfBytes_vecBytes]

/-- One turn of R86's loop at position `i`: the carry out, and the byte put before those found so far. -/
def addByteStep (a b : Vec) (i : Nat) (p : Nat × List Byte) : Nat × List Byte :=
  (((vecByte a i).toNat + (vecByte b i).toNat + p.1) / 256,
    BitVec.ofNat 8 (((vecByte a i).toNat + (vecByte b i).toNat + p.1) % 256) :: p.2)

theorem addByteLoop_eq (a b : Vec) :
    addByteLoop a b = vecOfBytes ((List.range 64).foldr (addByteStep a b) (0, [])).2 := rfl

/-- The loop over any positions: one byte for each; with the carry out on top they are the sum of the two numbers. -/
theorem foldr_addByteStep (a b : Vec) (is : List Nat) :
    (is.foldr (addByteStep a b) (0, [])).2.length = is.length ∧
    bytesNum (is.foldr (addByteStep a b) (0, [])).2 + (is.foldr (addByteStep a b) (0, [])).1 * 256 ^ is.length =
      bytesNum (is.map (vecByte a)) + bytesNum (is.map (vecByte b)) := by
  induction is with
  | nil => exact ⟨rfl, rfl⟩
  | cons i is ih =>
    obtain ⟨hlen, hsum⟩ := ih
    rw [List.foldr_cons]
    generalize is.foldr (addByteStep a b) (0, []) = p at hlen hsum
    refine ⟨by simp [addByteStep, hlen], ?_⟩
    have hsplit := Nat.mod_add_div ((vecByte a i).toNat + (vecByte b i).toNat + p.1) 256
    have hmod (x : Nat) : x % 256 % 2 ^ 8 = x % 256 := Nat.mod_mod x 256
    simp only [addByteStep, bytesNum, List.map_cons, List.length_map, List.length_cons, hlen, BitVec.toNat_ofNat, hmod]
    linear_combination 256 ^ is.length * hsplit + hsum

/-- R86's loop leaves the sum of the two numbers with its last carry on top, and that carry weighs `2^512`. -/
theorem vecAdd_eq_addByteLoop (a b : Vec) : vecAdd a b = addByteLoop a b := by
  obtain ⟨-, hsum⟩ := foldr_addByteStep a b (List.range 64)
  calc vecAdd a b
      = vecOfBytes (vecBytes a) + vecOfBytes (vecBytes b) := by rw [vecOfBytes_vecBytes, vecOfBytes_vecBytes, vecAdd]
    _ = BitVec.ofNat 512 (bytesNum (vecBytes a) + bytesNum (vecBytes b)) := by
        rw [BitVec.ofNat_add, vecOfBytes_eq_ofNat_bytesNum, vecOfBytes_eq_ofNat_bytesNum]
    _ = addByteLoop a b := by
        rw [addByteLoop_eq, vecOfBytes_eq_ofNat_bytesNum, vecBytes, vecBytes, ← hsum, List.length_range,
          ofNat_add_mul_pow_256 (n := 512) rfl]

/-- Settles O36: the loop's bytes make up the sum of the two vectors, and a vector's number is its own value. -/
theorem addIsByteLoop : Obligations.AddIsByteLoop := by
  intro a b
  refine ⟨vecAdd_eq_addByteLoop a b, ?_⟩
  have hsum := BitVec.toNat_add a b
  rwa [← vecNum_eq_toNat, ← vecNum_eq_toNat, ← vecNum_eq_toNat] at hsum

end Sys2Proof.Machine
end

section
/-! `L` by the bits of each row, and its linearity (R90). -/

namespace Sys2Proof.Machine

/-- R90's accumulation as a loop over the bits of the row. -/
theorem selectXor_eq_foldl (row : BitVec 64) (hs : List (BitVec 64)) (j : Nat) (acc : BitVec 64) :
    selectXor row hs j acc = (List.range hs.length).foldl
      (fun acc i => if row.getMsbD (j + i) then acc ^^^ hs.getD i 0 else acc) acc := by
  induction hs generalizing j acc with
  | nil => rfl
  | cons h hs ih =>
    rw [selectXor, ih, List.length_cons, List.range_succ_eq_map, List.foldl_cons, List.foldl_map]
    simp only [Nat.succ_eq_add_one, Nat.add_zero, List.getD_cons_zero, List.getD_cons_succ, Nat.add_assoc,
      Nat.add_comm 1]

theorem lRow_eq_foldl (c : Config) (v : Vec) (q : Nat) :
    lRow c v q = (List.range 64).foldl
      (fun acc j => if (vecRow v q).getMsbD j then acc ^^^ c.ha.toList.getD j 0 else acc) 0 := by
  rw [lRow, selectXor_eq_foldl, Vector.length_toList]
  simp only [Nat.zero_add]

/-- The part of an accumulator that one byte position holds, accumulated on its own. -/
theorem extractLsb'_foldl_xor (select : Nat → Bool) (row : Nat → BitVec 64) (k : Nat) (js : List Nat)
    (acc : BitVec 64) :
    (js.foldl (fun acc j => if select j then acc ^^^ row j else acc) acc).extractLsb' k 8 =
      js.foldl (fun acc j => if select j then acc ^^^ (row j).extractLsb' k 8 else acc) (acc.extractLsb' k 8) := by
  refine (List.foldl_hom (fun x : BitVec 64 => x.extractLsb' k 8) fun acc j => ?_).symm
  rw [apply_ite (fun x : BitVec 64 => x.extractLsb' k 8), BitVec.extractLsb'_xor]

/-- Settles O38: byte by byte the accumulation of a row is the accumulation of the bytes, on the same bits. -/
theorem lMatchesBitLoop : Obligations.LMatchesBitLoop := by
  intro c v q t
  have hzero : (0 : BitVec 64).extractLsb' (8 * (7 - t.val)) 8 = 0 := BitVec.extractLsb'_zero
  rw [vecByte_eq_extractLsb'_vecRow _ q.isLt t.isLt, vecRow_lLayer c v q.isLt, lRow_eq_foldl, extractLsb'_foldl_xor,
    hzero, lLoopByte]
  refine List.foldl_ext _ _ _ fun acc j hj => ?_
  rw [getMsbD_vecRow v q.isLt (List.mem_range.mp hj)]

/-- A bit of the XOR of two rows selects a matrix row once where it selects it in just one of the two. -/
theorem selectXor_xor (x y : BitVec 64) (hs : List (BitVec 64)) (j : Nat) (a b : BitVec 64) :
    selectXor (x ^^^ y) hs j (a ^^^ b) = selectXor x hs j a ^^^ selectXor y hs j b := by
  induction hs generalizing j a b with
  | nil => rfl
  | cons h hs ih =>
    have hacc : (if (x ^^^ y).getMsbD j then a ^^^ b ^^^ h else a ^^^ b) =
        (if x.getMsbD j then a ^^^ h else a) ^^^ (if y.getMsbD j then b ^^^ h else b) := by
      have hboth : a ^^^ b = a ^^^ h ^^^ (b ^^^ h) := by
        rw [BitVec.xor_comm b h, BitVec.xor_assoc, ← BitVec.xor_assoc h, BitVec.xor_self, BitVec.zero_xor]
      have hleft : a ^^^ b ^^^ h = a ^^^ h ^^^ b := by
        rw [BitVec.xor_assoc, BitVec.xor_comm b h, BitVec.xor_assoc]
      rw [BitVec.getMsbD_xor]
      cases x.getMsbD j <;> cases y.getMsbD j
      · rfl
      · exact BitVec.xor_assoc a b h
      · exact hleft
      · exact hboth
    rw [selectXor, hacc, ih, selectXor, selectXor]

theorem lRow_vecXor (c : Config) (a b : Vec) (q : Nat) : lRow c (vecXor a b) q = lRow c a q ^^^ lRow c b q := by
  rw [lRow, vecRow_vecXor]
  exact selectXor_xor (vecRow a q) (vecRow b q) c.ha.toList 0 0 0

theorem lLayer_vecXor (c : Config) (a b : Vec) : lLayer c (vecXor a b) = vecXor (lLayer c a) (lLayer c b) :=
  eq_of_vecRow_eq fun q hq => by
    rw [vecRow_lLayer c _ hq, lRow_vecXor, vecRow_vecXor, vecRow_lLayer c a hq, vecRow_lLayer c b hq]

/-- Settles O39: linearity row by row; zero is `XOR(0, 0)`, so its image is the XOR of a vector with itself. -/
theorem lIsLinear : Obligations.LIsLinear := by
  intro c a b
  refine ⟨lLayer_vecXor c a b, ?_⟩
  have hzero (x : Vec) : vecXor x x = 0 := BitVec.xor_self
  rw [← hzero 0, lLayer_vecXor, hzero, hzero]

end Sys2Proof.Machine
end

section
/-! The compositions of the transforms, and the rounds of `E` (R91 to R94). -/

namespace Sys2Proof.Machine

theorem hcAt_eq_getElem (c : Config) (r : Fin 12) : hcAt c r.val = c.hc[r] := by
  rw [hcAt, List.getD_eq_getElem _ _ (by simp), Vector.getElem_toList]
  rfl

/-- Settles O40: the definitions, and that `HC[r]` is in range for the twelve rounds. -/
theorem transformsCompose : Obligations.TransformsCompose := by
  intro c v k nv h m r
  refine ⟨rfl, ?_, rfl⟩
  rw [keySchedule, hcAt_eq_getElem]

/-- `(T, KH)` after the first `n` rounds of `E(K, m)` (R93). -/
def eRoundsUpTo (c : Config) (k m : Vec) (n : Nat) : Vec × Vec :=
  (List.range n).foldl (fun p r => eRound c r p) (vecXor k m, k)

theorem eRoundsUpTo_succ (c : Config) (k m : Vec) (n : Nat) :
    eRoundsUpTo c k m (n + 1) = eRound c n (eRoundsUpTo c k m n) := by
  rw [eRoundsUpTo, List.range_succ, List.foldl_concat, eRoundsUpTo]

theorem eTransform_eq (c : Config) (k m : Vec) : eTransform c k m = (eRoundsUpTo c k m 12).1 := rfl

/-- Settles O41 by the pairs `(T, KH)` after each number of rounds. -/
theorem eTwelveRounds : Obligations.ETwelveRounds := by
  intro c k m
  refine ⟨fun n => (eRoundsUpTo c k m n).1, fun n => (eRoundsUpTo c k m n).2, rfl, rfl, fun r _ => ?_,
    eTransform_eq c k m⟩
  simp only [eRoundsUpTo_succ]
  exact ⟨rfl, rfl⟩

end Sys2Proof.Machine
end

section
/-! HDIGEST on a message that fits, from its first byte to the final `End` (R33, R100 to R106). -/

namespace Sys2Proof.Machine

/-- R100: the digest of the message is written, then the final `End`, and the command completes. -/
theorem exec_hdigest_completes {s : State} {bs : List Byte} {ts : List DinToken} (hm : Memory.wf s.msg)
    (hfit : bs.length ≤ s.cfg.msgMax) (hdin : s.din = packet bs ts) (hok : s.SinkOk (digestLength s.hsize + 1)) :
    exec .hdigest s = .next (((s.digested bs ts).wrote
      (okBytes (messageDigest s.cfg s.hsize bs) ++ [endEvent .ok])).complete.freeWork .hash) := by
  have hend : ((s.digested bs ts).wrote (okBytes (messageDigest s.cfg s.hsize bs))).sinkAt 0 = some .ok := by
    rw [sinkAt_wrote_okBytes, messageDigest_length, Nat.add_zero, sinkAt_digested]
    exact hok _ (Nat.lt_succ_self _)
  have hall : (s.digested bs ts).SinkOk (digestLength s.hsize) := (hok.mono (Nat.le_succ _)).digested bs ts
  rw [exec_hdigest_packet hfit hdin, sendDigest_all (digestBytes_digested hm bs ts) hall, finish_ok hend, wrote_wrote]

/-- What a completed HDIGEST has put out, and what it leaves unchanged. -/
theorem digested_complete (s : State) (bs : List Byte) (ts : List DinToken) (es : List DoutEvent) :
    let t := ((s.digested bs ts).wrote es).complete.freeWork .hash
    t.dout = s.dout ++ es ∧ t.din = ts ∧ t.sink = s.sink.drop es.length ∧ t.sinkAfter = s.sinkAfter ∧
      t.lasterr = 0 ∧ t.flt = s.flt ∧ t.phase = .idle ∧ t.len = (s.copied bs).len ∧ t.msg = (s.copied bs).msg ∧
      hashFrame s t := by
  simp [hashFrame, sameKey, sameInstance, sameRsp, sameCipher, State.digested, State.copied, State.storeBytes]

/-- Settles O42: the writes are the digest's bytes and `End`, one for each of the sink's answers, and the buffer is as
the copy loop left it. -/
theorem hdigestCompletes : Obligations.HdigestCompletes := by
  intro s bs rest hm hdin hfit hok
  have hlen := messageDigest_length s.cfg s.hsize bs
  obtain ⟨hdout, hleft, hsink, hafter, hlasterr, hflt, hphase, htlen, hmsg, hframe⟩ := digested_complete s bs rest
    (okBytes (messageDigest s.cfg s.hsize bs) ++ [endEvent .ok])
  rw [List.length_append, okBytes, List.length_map, hlen, List.length_singleton] at hsink
  refine ⟨_, exec_hdigest_completes hm hfit hdin hok, ?_, hlen.trans ?_, hleft, hsink, hafter, hlasterr, hflt, hphase,
    htlen.trans (copied_len bs s), fun a => ?_, hframe⟩
  · rw [hdout, List.append_assoc]
  · cases s.hsize <;> rfl
  · rw [hmsg, memByte_copied hm]

end Sys2Proof.Machine
end

section
/-! What step 4 of the digest leaves in `N` and `SIGMA` (R102 to R104). -/

namespace Sys2Proof.Machine

/-! ## The vectors added to `N` -/

theorem vecOfBytes_replicate_zero_append (n : Nat) (bs : List Byte) :
    vecOfBytes (List.replicate n 0 ++ bs) = vecOfBytes bs := by
  induction n with
  | zero => rfl
  | succ n ih => simpa [vecOfBytes, List.replicate_succ] using ih

theorem v512_eq_ofNat : v512 = BitVec.ofNat 512 512 := by
  have hnum : bytesNum [0x02, 0x00] = 512 := by decide
  rw [v512, vecOfBytes_replicate_zero_append, vecOfBytes_eq_ofNat_bytesNum, hnum]

/-- R104: two bytes hold the bit length of the head of a message. -/
theorem bitLength_eq_ofNat {l : Nat} (hl : l < 64) : bitLength l = BitVec.ofNat 512 (8 * l) := by
  have hnum : bytesNum [BitVec.ofNat 8 (8 * l / 256), BitVec.ofNat 8 (8 * l % 256)] = 8 * l := by
    simp only [bytesNum, BitVec.toNat_ofNat, List.length_cons, List.length_nil]
    omega
  rw [bitLength, vecOfBytes_replicate_zero_append, vecOfBytes_eq_ofNat_bytesNum, hnum]

/-! ## What each step does to `N` and `SIGMA` -/

section
variable (c : Config) (r : HashRegs)

theorem HashRegs.init_n (hs : HSize) : (r.init hs).n = 0#512 := rfl

theorem HashRegs.init_sigma (hs : HSize) : (r.init hs).sigma = 0#512 := rfl

theorem HashRegs.chunk_n (blk : Vec) : (r.chunk c blk).n = r.n + v512 := rfl

theorem HashRegs.chunk_sigma (blk : Vec) : (r.chunk c blk).sigma = r.sigma + blk := rfl

theorem HashRegs.pad_n (msg : Memory) (l : Nat) : (r.pad c msg l).n = r.n + bitLength l := rfl

theorem HashRegs.pad_sigma (msg : Memory) (l : Nat) : (r.pad c msg l).sigma = r.sigma + paddedBlock msg l := rfl

end

/-! ## The sums of step 2 -/

/-- The sum of the numbers of the `q` chunks that end at `l`, before any reduction (R102, R104). -/
def chunkSum (msg : Memory) (q l : Nat) : Nat :=
  ((List.range q).map fun k => (vecOfBytes (memRead msg (l - 64 * (k + 1)) 64)).toNat).sum

theorem chunkSum_succ (msg : Memory) (q l : Nat) :
    chunkSum msg (q + 1) l = (vecOfBytes (memRead msg (l - 64) 64)).toNat + chunkSum msg q (l - 64) := by
  have hshift (k : Nat) : l - 64 * (k + 1 + 1) = l - 64 - 64 * (k + 1) := by omega
  simp [chunkSum, List.range_succ_eq_map, Function.comp_def, hshift]

/-- R102: each chunk adds 512 to `N`. -/
theorem absorbChunks_n (c : Config) (msg : Memory) (q l : Nat) (r : HashRegs) :
    (absorbChunks c msg q l r).n = r.n + BitVec.ofNat 512 (512 * q) := by
  induction q generalizing l r with
  | zero => exact (BitVec.add_zero _).symm
  | succ q ih =>
    rw [absorbChunks, ih, HashRegs.chunk_n, v512_eq_ofNat, BitVec.add_assoc, ← BitVec.ofNat_add, Nat.mul_succ,
      Nat.add_comm 512]

/-- R102: each chunk is added to `SIGMA`. -/
theorem absorbChunks_sigma (c : Config) (msg : Memory) (q l : Nat) (r : HashRegs) :
    (absorbChunks c msg q l r).sigma = r.sigma + BitVec.ofNat 512 (chunkSum msg q l) := by
  induction q generalizing l r with
  | zero => exact (BitVec.add_zero _).symm
  | succ q ih =>
    rw [absorbChunks, ih, HashRegs.chunk_sigma, chunkSum_succ, BitVec.ofNat_add, BitVec.ofNat_toNat, BitVec.setWidth_eq,
      BitVec.add_assoc]

/-! ## Step 4 -/

section
variable (c : Config) (hs : HSize) (msg : Memory) (len : Nat) (r : HashRegs)

/-- R104: 512 for each chunk and the bits of the head make 8 bits for each byte. -/
theorem pad_absorbChunks_n :
    ((absorbChunks c msg (len / 64) len (r.init hs)).pad c msg (len % 64)).n = BitVec.ofNat 512 (8 * len) := by
  have hhead : len % 64 < 64 := Nat.mod_lt _ (by decide)
  have hbits : 512 * (len / 64) + 8 * (len % 64) = 8 * len := by omega
  rw [HashRegs.pad_n, absorbChunks_n, HashRegs.init_n, bitLength_eq_ofNat hhead, BitVec.zero_add, ← BitVec.ofNat_add,
    hbits]

/-- R104: the padded block is the last one added to `SIGMA`. -/
theorem pad_absorbChunks_sigma :
    ((absorbChunks c msg (len / 64) len (r.init hs)).pad c msg (len % 64)).sigma =
      BitVec.ofNat 512 (chunkSum msg (len / 64) len + (paddedBlock msg (len % 64)).toNat) := by
  rw [HashRegs.pad_sigma, absorbChunks_sigma, HashRegs.init_sigma, BitVec.zero_add, BitVec.ofNat_add,
    BitVec.ofNat_toNat, BitVec.setWidth_eq]

end

theorem toNat_of_eq_ofNat {w k : Nat} {x : BitVec w} (h : x = BitVec.ofNat w k) : x.toNat = k % 2 ^ w :=
  h ▸ BitVec.toNat_ofNat k w

/-- Settles O48: `N` and `SIGMA` are the vectors of the two sums, so their numbers are the sums modulo 2^512. -/
theorem lengthAndChecksum : Obligations.LengthAndChecksum := fun c hs msg len r =>
  ⟨toNat_of_eq_ofNat (pad_absorbChunks_n c hs msg len r), toNat_of_eq_ofNat (pad_absorbChunks_sigma c hs msg len r)⟩

end Sys2Proof.Machine
end

section
/-! The command loop on a whole command, and STAT (R115, R117). -/

namespace Sys2Proof.Machine

/-- Settles O7: the words of the command are taken, then it runs. -/
theorem stepRunsDecodedCommand : Obligations.StepRunsDecodedCommand := fun _ _ _ hr hp hd =>
  step_of_fetch_run (fetch_of_instr hr hp hd)

/-! ## STAT -/

/-- The obligation writes a flag of STATUS as a shifted number. -/
theorem bitWord_shiftLeft (p : Prop) [Decidable p] (n : Nat) :
    bitWord (decide p) <<< n = (((if p then 1 else 0) <<< n : Nat) : Word) := by
  refine BitVec.eq_of_toNat_eq ?_
  by_cases h : p <;> simp [bitWord, h]

theorem State.RspTakes.room_ne_zero {s : State} (h : s.RspTakes 1) : s.rspRoom ≠ some 0 := by
  intro h0
  simp [State.RspTakes, h0] at h

/-- R117: one word, and no flag. -/
theorem sendStatus_takes {s : State} (h : s.RspTakes 1) : s.sendStatus = (s.answered [s.status]).waitAt .idle := by
  rw [State.sendStatus, rspWrite_eq, if_neg h.room_ne_zero]

/-- R46: STAT waits while the host takes no word. -/
theorem sendStatus_waits {s : State} (h : s.rspRoom = some 0) : s.sendStatus = s.waitAt .stat := by
  rw [State.sendStatus, rspWrite_eq, if_pos h]

theorem exec_stat (s : State) : exec .stat s = .next s.sendStatus := rfl

theorem step_at_stat {s : State} (hr : s.rst = false) (hp : s.phase = .stat) : step s = .next s.sendStatus := by
  rw [step_of_resuming hr (by simp [hp]) (by simp [hp]), State.resume, hp]

theorem waitAt_eq_self {s : State} {p : Phase} (h : s.phase = p) : s.waitAt p = s := h ▸ rfl

/-- Settles O11: a first run and a waiting STAT make the same transfer, which the host takes or not. -/
theorem statWritesStatus : Obligations.StatWritesStatus := by
  intro s
  refine ⟨?_, fun htakes => ?_, fun hroom => ?_, fun hr hp htakes => ?_, fun hr hp hroom => ?_⟩
  · rw [← bitWord_shiftLeft, ← bitWord_shiftLeft, Bool.decide_eq_true]
    rfl
  · rw [exec_stat, sendStatus_takes htakes]
    rfl
  · rw [exec_stat, sendStatus_waits hroom]
    rfl
  · rw [step_at_stat hr hp, sendStatus_takes htakes]
    rfl
  · rw [step_at_stat hr hp, sendStatus_waits hroom, waitAt_eq_self hp]

end Sys2Proof.Machine
end

section
/-! Fault entry, and the faults that come before any transfer (R125, R126, R129, R131, R135). -/

namespace Sys2Proof.Machine

/-! ## No step stops the engine -/

/-- R131, R135: every command, a faulting one too, leads to a next state. -/
theorem exec_continues (i : Instr) (s : State) : ∃ t, exec i s = .next t := by
  cases i with
  | getkey =>
    simp only [exec, execGetkey]
    split <;> exact ⟨_, rfl⟩
  | _ => exact ⟨_, rfl⟩

/-- Settles O10: a turn of the command loop is a next state, or runs a command, which leads to one. -/
theorem stepAlwaysContinues : Obligations.StepAlwaysContinues := by
  intro s
  cases hf : s.fetch with
  | run i u => exact step_of_fetch_run hf ▸ exec_continues i u
  | done t => exact ⟨t, step_of_fetch_done hf⟩

/-! ## Fault entry -/

/-- R131: what fault entry writes. -/
theorem raise_eq (f : Fault) (s : State) :
    s.raise f = { s with flt := s.flt ||| 1 <<< f.code.toNat, lasterr := f.code, phase := .idle } := rfl

/-- Settles O16: the six codes, and what fault entry writes. -/
theorem faultEntryRecordsCode : Obligations.FaultEntryRecordsCode :=
  ⟨⟨rfl, rfl, rfl, rfl, rfl, rfl⟩, raise_eq⟩

/-- R81, R126: CPROC without a mode is fault entry. -/
theorem exec_cprocUnset (s : State) : exec .cprocUnset s = .next (s.raise .cfgMode) := rfl

/-- R81, R126: CPROC with an invalid mode is fault entry. -/
theorem exec_cprocBad (s : State) : exec .cprocBad s = .next (s.raise .cfgMode) := rfl

/-- Settles O17: both commands are fault entry with `cfgMode`. -/
theorem undefinedModeFaults : Obligations.UndefinedModeFaults := by
  intro s
  rw [exec_cprocUnset, exec_cprocBad, raise_eq]
  exact ⟨rfl, rfl⟩

section
variable {s : State} (hkey : s.keyv = false)
include hkey

/-- R129: without a key CPROC is fault entry. -/
theorem exec_cproc_without_key (m : Mode) : exec (cprocOf m) s = .next (s.raise .keyUnset) := by
  rw [exec_cprocOf, State.process, if_neg (by rw [hkey]; decide)]

/-- R129: without a key GETKEY is fault entry. -/
theorem exec_getkey_without_key : exec .getkey s = .next (s.raise .keyUnset) :=
  if_neg (by rw [hkey]; decide)

end

/-- Settles O18: the key is examined before any transfer, and its absence is fault entry with `keyUnset`. -/
theorem keyUnsetBeforeIo : Obligations.KeyUnsetBeforeIo := fun _ hkey =>
  ⟨exec_cproc_without_key hkey .enc, exec_cproc_without_key hkey .dec, exec_getkey_without_key hkey⟩

end Sys2Proof.Machine
end

section
/-! The stream faults of CPROC and HDIGEST, from the release of DOUT, or the refused final `End`, to the fault entry (R37,
R127, R128, R130, R131, R133). -/

namespace Sys2Proof.Machine

/-! ## The two ways into a stream fault -/

/-- R127, R128, R130: the sink takes the `End` of a release, and its answer is ignored. -/
theorem release_answered {s : State} {a : Answer} (h : s.sinkAt 0 = some a) (u : StreamUnit) (f : Fault) :
    s.release u f = ((s.wrote [endEvent a]).raise f).freeWork u := by
  rw [release_eq, h]
  rfl

/-- R128: the sink refuses the final `End`, and no second one is written. -/
theorem finish_refused {s : State} (h : s.sinkAt 0 = some .err) (u : StreamUnit) :
    s.finish u = ((s.wrote [endEvent .err]).raise .streamOut).freeWork u := by
  rw [finish_eq, h]
  rfl

/-! ## CPROC -/

section
variable {m : Mode} {s : State} {bs : List Byte} {ts : List DinToken}

/-- The outcome of a CPROC that has entered the fault `f` with the writes `es` made. -/
theorem exec_cproc_of_raise {es : List DoutEvent} {f : Fault}
    (h : ∃ c : CipherRegs, s.process m = (((s.ciphered es c).setDin ts).raise f).freeWork .cipher) :
    ∃ t, exec (cprocOf m) s = .next t ∧ t.dout = s.dout ++ es ∧ t.din = ts ∧ t.flt = s.flt ||| f.bit ∧
      t.lasterr = f.code ∧ t.phase = .idle ∧ cipherFrame s t := by
  obtain ⟨c, hc⟩ := h
  exact ⟨_, (exec_cprocOf m s).trans (congrArg _ hc), rfl, rfl, rfl, rfl, rfl, ⟨rfl, rfl⟩, ⟨rfl, rfl, rfl, rfl, rfl⟩,
    ⟨rfl, rfl⟩, rfl, rfl, fun _ => rfl⟩

/-- R37: a CPROC that has made the writes `es` releases DOUT. -/
theorem release_ciphered {es : List DoutEvent} {a : Answer} (h : (s.wrote es).sinkAt 0 = some a) (c : CipherRegs)
    (f : Fault) :
    ((s.ciphered es c).setDin ts).release .cipher f =
      (((s.ciphered (es ++ [endEvent a]) c).setDin ts).raise f).freeWork .cipher := by
  rw [release_answered (s := (s.ciphered es c).setDin ts) h, wrote_setDin, wrote_ciphered]

variable (hkey : s.keyv = true)
include hkey

/-- R127: `Err` taken, the partial block dropped, one `End` written. -/
theorem process_streamIn {a : Answer} (hdin : s.din = brokenPacket bs ts) (hok : s.SinkOk (8 * (bs.length / 8)))
    (ha : s.sinkAt (8 * (bs.length / 8)) = some a) :
    ∃ c : CipherRegs, s.process m =
      (((s.ciphered (okBytes (blockImages s.cfg.csbox s.key m bs (bs.length / 8)) ++ [endEvent a]) c).setDin
        ts).raise .streamIn).freeWork .cipher := by
  obtain ⟨c, hread⟩ := process_brokenPacket (m := m) hkey hdin hok
  have hsink : (s.wrote (okBytes (blockImages s.cfg.csbox s.key m bs (bs.length / 8)))).sinkAt 0 = some a := by
    rw [sinkAt_wrote_blocks, Nat.add_zero, ha]
  exact ⟨c, hread.trans (release_ciphered hsink c .streamIn)⟩

/-- R128: byte `j` refused, the packet discarded, one `End` written. -/
theorem process_streamOut {j : Nat} {a : Answer}
    (hdin : s.din = packet bs ts ∧ j < 8 * blockCount bs.length ∨
      s.din = brokenPacket bs ts ∧ j < 8 * (bs.length / 8))
    (hok : s.SinkOk j) (herr : s.sinkAt j = some .err) (ha : s.sinkAt (j + 1) = some a) :
    ∃ c : CipherRegs, s.process m =
      (((s.ciphered (okBytes ((streamImage s.cfg.csbox s.key m bs).take j) ++
        [refusedByte ((streamImage s.cfg.csbox s.key m bs).getD j 0), endEvent a]) c).setDin
          ts).raise .streamOut).freeWork .cipher := by
  obtain ⟨c, hread⟩ := process_refused (m := m) hkey hok hdin herr
  have hj : j < 8 * blockCount bs.length := by
    unfold blockCount at hdin ⊢
    omega
  have hsink : (s.wrote (okBytes ((streamImage s.cfg.csbox s.key m bs).take j) ++
      [refusedByte ((streamImage s.cfg.csbox s.key m bs).getD j 0)])).sinkAt 0 = some a := by
    rw [sinkAt_wrote, refusal_length (by rwa [streamImage_length]), Nat.add_zero, ha]
  have hrelease := release_ciphered (ts := ts) hsink c .streamOut
  rw [List.append_assoc] at hrelease
  exact ⟨c, hread.trans hrelease⟩

/-- R128: every block written, and the final `End` refused. -/
theorem process_end_refused (hdin : s.din = packet bs ts) (hok : s.SinkOk (8 * blockCount bs.length))
    (herr : s.sinkAt (8 * blockCount bs.length) = some .err) :
    ∃ c : CipherRegs, s.process m =
      (((s.ciphered (okBytes (streamImage s.cfg.csbox s.key m bs) ++ [endEvent .err]) c).setDin
        ts).raise .streamOut).freeWork .cipher := by
  obtain ⟨c, hread⟩ := process_packet (m := m) hkey hdin hok
  have hsink : (s.wrote (okBytes (streamImage s.cfg.csbox s.key m bs))).sinkAt 0 = some .err := by
    rw [streamImage, sinkAt_wrote_blocks, Nat.add_zero, herr]
  have hfinish := finish_refused (s := (s.ciphered _ c).setDin ts) hsink .cipher
  rw [wrote_setDin, wrote_ciphered] at hfinish
  exact ⟨c, hread.trans hfinish⟩

end

/-- Settles O33: the whole blocks go out, `Err` drops the partial block, and DOUT is released. -/
theorem cprocStreamIn : Obligations.CprocStreamIn := by
  intro m s bs rest a hkey hdin hok ha
  rw [List.append_assoc]
  exact exec_cproc_of_raise (process_streamIn hkey hdin hok ha)

/-- Settles O34: the output goes out up to the refused byte, and DIN and DOUT are released. -/
theorem cprocStreamOut : Obligations.CprocStreamOut := by
  intro m s bs rest j a hkey hdin hok herr ha
  rw [List.append_assoc]
  exact exec_cproc_of_raise (process_streamOut hkey hdin hok herr ha)

/-- Settles O35: all the output goes out, and the refused `End` is the release. -/
theorem cprocFinalEndRefused : Obligations.CprocFinalEndRefused := by
  intro m s bs rest hkey hdin hok herr
  rw [List.append_assoc]
  exact exec_cproc_of_raise (process_end_refused hkey hdin hok herr)

/-! ## HDIGEST -/

section
variable {s : State} {bs : List Byte} {ts : List DinToken}

/-- The state of an HDIGEST that has copied `bs`, made the writes `es` and entered the fault `f`, `ts` left on DIN. -/
def State.hashFaulted (bs : List Byte) (ts : List DinToken) (es : List DoutEvent) (f : Fault) (s : State) : State :=
  ((((s.copied bs).setDin ts).wrote es).raise f).freeWork .hash

/-- U15: once the working registers are free, nothing is left of the digest that was computed. -/
theorem digested_faulted (es : List DoutEvent) (f : Fault) :
    (((s.digested bs ts).wrote es).raise f).freeWork .hash = s.hashFaulted bs ts es f := rfl

/-- What a faulted HDIGEST leaves unchanged. -/
theorem hashFaulted_hashFrame (es : List DoutEvent) (f : Fault) : hashFrame s (s.hashFaulted bs ts es f) :=
  ⟨⟨rfl, rfl⟩, ⟨rfl, rfl, rfl, rfl, rfl⟩, ⟨rfl, rfl⟩, rfl⟩

/-- The outcome of an HDIGEST that has entered the fault `f` with the writes `es` made. -/
theorem exec_hdigest_of_faulted {es : List DoutEvent} {f : Fault}
    (h : exec .hdigest s = .next (s.hashFaulted bs ts es f)) :
    ∃ t, exec .hdigest s = .next t ∧ t.dout = s.dout ++ es ∧ t.din = ts ∧ t.flt = s.flt ||| f.bit ∧
      t.lasterr = f.code ∧ t.phase = .idle ∧ hashFrame s t :=
  ⟨_, h, rfl, rfl, rfl, rfl, rfl, hashFaulted_hashFrame es f⟩

section
variable {a : Answer} (ha : s.sinkAt 0 = some a)
include ha

/-- R127: `Err` taken, and one `End` written. -/
theorem exec_hdigest_streamIn (hfit : bs.length ≤ s.cfg.msgMax) (hdin : s.din = brokenPacket bs ts) :
    exec .hdigest s = .next (s.hashFaulted bs ts [endEvent a] .streamIn) :=
  (exec_hdigest_copied hfit hdin).trans
    (congrArg _ (release_answered (s := (s.copied bs).setDin ts) ha .hash .streamIn))

/-- R130: the buffer filled, the rest of the packet discarded, and one `End` written. -/
theorem exec_hdigest_msgOverflow (hfull : s.cfg.msgMax < bs.length)
    (hdin : s.din = packet bs ts ∨ s.din = brokenPacket bs ts) :
    exec .hdigest s = .next (s.hashFaulted (bs.take s.cfg.msgMax) ts [endEvent a] .msgOverflow) :=
  (exec_hdigest_overflow hfull hdin).trans
    (congrArg _ (release_answered (s := (s.copied _).setDin ts) ha .hash .msgOverflow))

end

section
variable (hm : Memory.wf s.msg) (hdin : s.din = packet bs ts) (hfit : bs.length ≤ s.cfg.msgMax)
include hm hdin hfit

/-- R128: digest byte `j` refused, and one `End` written. -/
theorem exec_hdigest_streamOut {j : Nat} {a : Answer} (hj : j < digestLength s.hsize) (hok : s.SinkOk j)
    (herr : s.sinkAt j = some .err) (ha : s.sinkAt (j + 1) = some a) :
    exec .hdigest s = .next (s.hashFaulted bs ts (okBytes ((messageDigest s.cfg s.hsize bs).take j) ++
      [refusedByte ((messageDigest s.cfg s.hsize bs).getD j 0), endEvent a]) .streamOut) := by
  have hsink : ((s.digested bs ts).wrote (okBytes ((messageDigest s.cfg s.hsize bs).take j) ++
      [refusedByte ((messageDigest s.cfg s.hsize bs).getD j 0)])).sinkAt 0 = some a := by
    rw [sinkAt_wrote, refusal_length (by rwa [messageDigest_length]), Nat.add_zero, sinkAt_digested, ha]
  rw [exec_hdigest_packet hfit hdin, sendDigest_refused (digestBytes_digested hm bs ts) (hok.digested bs ts) hj herr,
    release_answered hsink, wrote_wrote, List.append_assoc]
  exact congrArg _ (digested_faulted _ _)

/-- R128: every digest byte written, and the final `End` refused. -/
theorem exec_hdigest_end_refused (hok : s.SinkOk (digestLength s.hsize))
    (herr : s.sinkAt (digestLength s.hsize) = some .err) :
    exec .hdigest s =
      .next (s.hashFaulted bs ts (okBytes (messageDigest s.cfg s.hsize bs) ++ [endEvent .err]) .streamOut) := by
  have hsink : ((s.digested bs ts).wrote (okBytes (messageDigest s.cfg s.hsize bs))).sinkAt 0 = some .err := by
    rw [sinkAt_wrote_okBytes, messageDigest_length, Nat.add_zero, sinkAt_digested, herr]
  rw [exec_hdigest_packet hfit hdin, sendDigest_all (digestBytes_digested hm bs ts) (hok.digested bs ts),
    finish_refused hsink, wrote_wrote]
  exact congrArg _ (digested_faulted _ _)

end

end

/-- Settles O45: the message is copied up to `Err`, and DOUT is released. -/
theorem hdigestStreamIn : Obligations.HdigestStreamIn := fun _ _ _ _ hdin hfit ha =>
  exec_hdigest_of_faulted (exec_hdigest_streamIn ha hfit hdin)

/-- Settles O46: the message is copied until the buffer is full, and DIN and DOUT are released. -/
theorem hdigestMsgOverflow : Obligations.HdigestMsgOverflow := by
  intro s bs rest a hdin hfull ha
  have hlen : (s.copied (bs.take s.cfg.msgMax)).len = s.cfg.msgMax :=
    (copied_len _ s).trans (List.length_take_of_le hfull.le)
  exact ⟨_, exec_hdigest_msgOverflow ha hfull hdin, rfl, rfl, rfl, rfl, rfl, hlen, hashFaulted_hashFrame _ _⟩

/-- Settles O47: the digest goes out up to the refused byte and DOUT is released, or all of it and the refused `End`. -/
theorem hdigestStreamOut : Obligations.HdigestStreamOut := by
  intro s bs rest hm hdin hfit
  refine ⟨fun j a hj hok herr ha => ?_, fun hok herr => ?_⟩
  · rw [List.append_assoc]
    exact exec_hdigest_of_faulted (exec_hdigest_streamOut hm hdin hfit hj hok herr ha)
  · rw [List.append_assoc]
    exact exec_hdigest_of_faulted (exec_hdigest_end_refused hm hdin hfit hok herr)

end Sys2Proof.Machine
end

section
/-! A step with `rst` asserted (R150, R151). -/

namespace Sys2Proof.Machine

/-- R150: `rst` comes before the command in progress and before every word on CMD. -/
theorem fetch_in_reset {s : State} (hr : s.rst = true) : s.fetch = .done s.resetMove := if_pos hr

/-- R25: the line `fault` is low, as it is right after reset. -/
theorem resetMove_faultLine (s : State) : s.resetMove.faultLine = false := by
  obtain ⟨-, -, -, -, hline, -⟩ := resetValues s.cfgHsize s.cfg
  exact hline

/-- Settles O57: the step is the reset move, which takes the engine's values from the reset state and the ports from
`s`. -/
theorem resetMoveClearsEngine : Obligations.ResetMoveClearsEngine := fun s hr =>
  ⟨s.resetMove, step_of_fetch_done (fetch_in_reset hr), s.resetMove_keyv, s.resetMove_flt, s.resetMove_lasterr,
    s.resetMove_hsize, s.resetMove_phase, resetMove_faultLine s, s.resetMove_cmd, s.resetMove_din, s.resetMove_dout,
    s.resetMove_rsp, s.resetMove_cfg, s.resetMove_rst.trans hr⟩

end Sys2Proof.Machine
end
